-- ==== Sys2Proof/Word.lean ====
section
/-! DEFINITION. The word types of the bus decoder (spec/00_scope.md R13) and their plainest arithmetic. -/

namespace Sys2Proof

/-- A 16-bit frame value; bit 15 is the first bit on the wire (R13, R80). -/
abbrev Frame := BitVec 16

/-- A 16-bit mask over a frame (R9). -/
abbrev Mask := BitVec 16

/-- An 8-bit debounce, blink or press counter (R27 to R35, R45). -/
abbrev Count := BitVec 8

/-- A time of the foreground in milliseconds, wrapping at 2^32 (R17). -/
abbrev Millis := BitVec 32

/-- An electrical level of one of the three bus lines (R16, R61). -/
inductive Level where
  | low
  | high
  deriving DecidableEq, Repr

/-- The frame has a bit of the mask set: the test "(f & m) != 0" of R82, R92 and R93. -/
def hits (f m : Mask) : Bool := (f &&& m) != 0#16

/-- The two masks share no bit (R11 w3, w4). -/
def disjoint (a b : Mask) : Bool := (a &&& b) == 0#16

/-- Exactly one bit of the mask is set (R11 w1). -/
def oneBit (m : Mask) : Bool := (List.range 16).any fun i => m == 1#16 <<< i

end Sys2Proof
end

