-- ==== Sys2Proof/Config.lean ====
section
/-! DEFINITION. The configuration record CFG (spec/00_scope.md R9), the names it is indexed by, the two
reference configurations (R12), and the free values of the model. -/

namespace Sys2Proof

/-- The two protocol variants (R2). -/
inductive Variant where
  | base7
  | ext9
  deriving DecidableEq, Repr

/-- The logical buttons, in the order of `BUTTONS` (R10). -/
inductive Button where
  | power
  | filter
  | heater
  | bubble
  | tempUp
  | tempDown
  | tempUnit
  | jet
  | disinf
  deriving DecidableEq, Repr

/-- The lamps of an LED frame (R86). -/
inductive Lamp where
  | power
  | filter
  | bubble
  | heaterOn
  | heaterStandby
  | noBeep
  | jet
  | disinf
  deriving DecidableEq, Repr

/-- A display position 1 to 4 (R85, R90). -/
inductive Pos where
  | p1
  | p2
  | p3
  | p4
  deriving DecidableEq, Repr

/-- The finite character set `Char` of R14: ten digits, six letters, the blank. -/
inductive Glyph where
  | d0
  | d1
  | d2
  | d3
  | d4
  | d5
  | d6
  | d7
  | d8
  | d9
  | C
  | F
  | E
  | N
  | D
  | H
  | blank
  deriving DecidableEq, Repr

/-- A subset of the seven segments a to g (R9 `GLYPH`, R85). -/
structure SegSet where
  a : Bool
  b : Bool
  c : Bool
  d : Bool
  e : Bool
  f : Bool
  g : Bool
  deriving DecidableEq, Repr

/-- A composite: the four characters of one display pass, in position order (R14). -/
structure Composite where
  c1 : Glyph
  c2 : Glyph
  c3 : Glyph
  c4 : Glyph
  deriving DecidableEq, Repr

/-- The blank composite `BLANK4` (R14). -/
def Composite.blank4 : Composite := ⟨.blank, .blank, .blank, .blank⟩

/-- The configuration record `CFG` (R9). `NBTN` is not a field: it follows from the variant (`Cfg.nbtn`).
The reload values of the 8-bit counters are 8-bit fields (R27, R45; log 4); a count, a duration in ticks
or a number of frames is a `Nat` (log 23); a temperature or a number of hours is an `Int` (R13). -/
structure Cfg where
  variant : Variant
  cue : Mask
  pos1 : Mask
  pos2 : Mask
  pos3 : Mask
  pos4 : Mask
  segA : Mask
  segB : Mask
  segC : Mask
  segD : Mask
  segE : Mask
  segF : Mask
  segG : Mask
  segDp : Mask
  /-- `GLYPH`: the partial map from characters to segment sets, as its list of pairs. -/
  glyphs : List (Glyph × SegSet)
  ledMark : Mask
  lampPower : Mask
  lampFilter : Mask
  lampBubble : Mask
  lampHeaterOn : Mask
  lampHeaterStandby : Mask
  lampNoBeep : Mask
  lampJet : Option Mask
  lampDisinf : Option Mask
  btnPower : Mask
  btnFilter : Mask
  btnHeater : Mask
  btnBubble : Mask
  btnTempUp : Mask
  btnTempDown : Mask
  btnTempUnit : Mask
  btnJet : Option Mask
  btnDisinf : Option Mask
  buttonAny : Mask
  unitC : Glyph
  unitF : Glyph
  durationMarker : Option Glyph
  errorMarker : Glyph
  confirmDisp : Count
  confirmBlank : Count
  confirmActual : Count
  confirmLed : Count
  blinkMinCycles : Nat
  blinkTempFrames : Nat
  blinkUpdateWindow : Nat
  blinkStoppedFrames : Nat
  pressCount : Count
  pressShortCount : Count
  ackTries : Nat
  ackPoll : Nat
  buzzerWaitTries : Nat
  settle : Nat
  readbackTries : Nat
  readbackPoll : Nat
  maxPresses : Nat
  tempSetMin : Int
  tempSetMax : Int
  tempMin : Int
  tempMax : Int
  disinfSteps : List Int
  disinfMaxPresses : Nat
  cyclePeriodMs : Nat
  onlineTimeoutMult : Nat
  /-- `W_FC`: the width in bits of the two frame counters. -/
  wFc : Nat
  deriving DecidableEq, Repr

/-- The four position bits (R9 `POS[1..4]`). -/
def Cfg.pos (c : Cfg) : Pos → Mask
  | .p1 => c.pos1
  | .p2 => c.pos2
  | .p3 => c.pos3
  | .p4 => c.pos4

/-- `DIGIT_ANY`, the union of the position bits (R11 w3, R82). -/
def Cfg.digitAny (c : Cfg) : Mask := c.pos1 ||| c.pos2 ||| c.pos3 ||| c.pos4

/-- `SEGMENTS`, the union of the seven segment bits (R11 w3, R89). -/
def Cfg.segments (c : Cfg) : Mask :=
  c.segA ||| c.segB ||| c.segC ||| c.segD ||| c.segE ||| c.segF ||| c.segG

/-- The button bit of a logical button; absent for the two extended buttons on `BASE7` (R9, R2, R10). -/
def Cfg.btn (c : Cfg) : Button → Option Mask
  | .power => some c.btnPower
  | .filter => some c.btnFilter
  | .heater => some c.btnHeater
  | .bubble => some c.btnBubble
  | .tempUp => some c.btnTempUp
  | .tempDown => some c.btnTempDown
  | .tempUnit => some c.btnTempUnit
  | .jet => match c.variant with
    | .base7 => none
    | .ext9 => c.btnJet
  | .disinf => match c.variant with
    | .base7 => none
    | .ext9 => c.btnDisinf

/-- The lamp bit of a lamp; absent for the two extended lamps on `BASE7` (R9, R86, R203). -/
def Cfg.lamp (c : Cfg) : Lamp → Option Mask
  | .power => some c.lampPower
  | .filter => some c.lampFilter
  | .bubble => some c.lampBubble
  | .heaterOn => some c.lampHeaterOn
  | .heaterStandby => some c.lampHeaterStandby
  | .noBeep => some c.lampNoBeep
  | .jet => match c.variant with
    | .base7 => none
    | .ext9 => c.lampJet
  | .disinf => match c.variant with
    | .base7 => none
    | .ext9 => c.lampDisinf

/-- The set `BUTTONS` in its fixed order (R10). -/
def Cfg.buttons (c : Cfg) : List Button :=
  match c.variant with
  | .base7 => [.power, .filter, .heater, .bubble, .tempUp, .tempDown, .tempUnit]
  | .ext9 => [.power, .filter, .heater, .bubble, .tempUp, .tempDown, .tempUnit, .jet, .disinf]

/-- `NBTN`, 7 or 9 (R9). -/
def Cfg.nbtn (c : Cfg) : Nat := c.buttons.length

/-- The glyph rows that both reference configurations share (R88). -/
def Cfg.baseGlyphs : List (Glyph × SegSet) :=
  [(.d0, ⟨true, true, true, true, true, true, false⟩),
   (.d1, ⟨false, true, true, false, false, false, false⟩),
   (.d2, ⟨true, true, false, true, true, false, true⟩),
   (.d3, ⟨true, true, true, true, false, false, true⟩),
   (.d4, ⟨false, true, true, false, false, true, true⟩),
   (.d5, ⟨true, false, true, true, false, true, true⟩),
   (.d6, ⟨true, false, true, true, true, true, true⟩),
   (.d7, ⟨true, true, true, false, false, false, false⟩),
   (.d8, ⟨true, true, true, true, true, true, true⟩),
   (.d9, ⟨true, true, true, true, false, true, true⟩),
   (.C, ⟨true, false, false, true, true, true, false⟩),
   (.F, ⟨true, false, false, false, true, true, true⟩),
   (.E, ⟨true, false, false, true, true, true, true⟩),
   (.blank, ⟨false, false, false, false, false, false, false⟩)]

/-- The reference configuration `CFG_REF7` with `THR_TEST` (R9, R12); not claimed for the device. -/
def Cfg.ref7 : Cfg where
  variant := .base7
  cue := 0x0100#16
  pos1 := 0x0040#16
  pos2 := 0x0020#16
  pos3 := 0x0800#16
  pos4 := 0x0004#16
  segA := 0x2000#16
  segB := 0x1000#16
  segC := 0x0200#16
  segD := 0x0400#16
  segE := 0x0080#16
  segF := 0x0008#16
  segG := 0x0010#16
  segDp := 0x8000#16
  glyphs := Cfg.baseGlyphs
  ledMark := 0x4000#16
  lampPower := 0x0001#16
  lampFilter := 0x1000#16
  lampBubble := 0x0400#16
  lampHeaterOn := 0x0080#16
  lampHeaterStandby := 0x0200#16
  lampNoBeep := 0x0100#16
  lampJet := none
  lampDisinf := none
  btnPower := 0x0400#16
  btnFilter := 0x0002#16
  btnHeater := 0x8000#16
  btnBubble := 0x0008#16
  btnTempUp := 0x1000#16
  btnTempDown := 0x0080#16
  btnTempUnit := 0x2000#16
  btnJet := none
  btnDisinf := none
  buttonAny := 0xB58A#16
  unitC := .C
  unitF := .F
  durationMarker := none
  errorMarker := .E
  confirmDisp := 3#8
  confirmBlank := 2#8
  confirmActual := 2#8
  confirmLed := 3#8
  blinkMinCycles := 2
  blinkTempFrames := 2
  blinkUpdateWindow := 40
  blinkStoppedFrames := 200
  pressCount := 4#8
  pressShortCount := 2#8
  ackTries := 10
  ackPoll := 1
  buzzerWaitTries := 10
  settle := 2
  readbackTries := 20
  readbackPoll := 1
  maxPresses := 25
  tempSetMin := 20
  tempSetMax := 40
  tempMin := 0
  tempMax := 60
  disinfSteps := [0, 3, 5, 8]
  disinfMaxPresses := 8
  cyclePeriodMs := 21
  onlineTimeoutMult := 50
  wFc := 32

/-- The reference configuration `CFG_REF9` with `THR_TEST` (R9, R12, R88); not claimed for the device. -/
def Cfg.ref9 : Cfg :=
  { Cfg.ref7 with
    variant := .ext9
    glyphs := Cfg.baseGlyphs ++
      [(.H, ⟨false, true, true, false, true, true, true⟩),
       (.N, ⟨false, false, true, false, true, false, true⟩),
       (.D, ⟨false, true, true, true, true, false, true⟩)]
    lampJet := some 0x0002#16
    lampDisinf := some 0x0008#16
    btnJet := some 0x0200#16
    btnDisinf := some 0x0010#16
    buttonAny := 0xB79A#16
    durationMarker := some .H }

/-- FREE VALUE (U6 of spec/93_implementation_defined.md, R175): the logical bit that the sampler reads at an
edge while the block's own reply pulse is still on the line; one fresh value per such edge (log 8). -/
opaque Config.freeBit : Nat → Bool

/-- FREE VALUE (R185): the target of H.SET_DISINF when `DISINF_STEPS` has no member, where "the member nearest
to h" names nothing (log 9). -/
opaque Config.freeTarget : Int → Int

end Sys2Proof
end

