-- ==== Sys2Proof/Syntax.lean ====
section
/-! DEFINITION. The operations of the bus decoder: one constructor per row of spec/opcode_table.json (R8). -/

namespace Sys2Proof

/-- An operation (R8). A frame operation carries the 16-bit frame value it is selected by, unless the value is
fixed (`fCue`, `fZero`); a host operation carries its arguments. -/
inductive Instr where
  /-- S.SHIFT (R111): the sampled logical bit. -/
  | sShift (bit : Bool)
  /-- S.COMPLETE (R112). -/
  | sComplete
  /-- S.DROP (R113). -/
  | sDrop
  /-- S.IDLE (R114). -/
  | sIdle
  /-- F.CUE (R121). -/
  | fCue
  /-- F.DIGIT.P1 (R130). -/
  | fDigitP1 (f : Frame)
  /-- F.DIGIT.P2 (R130). -/
  | fDigitP2 (f : Frame)
  /-- F.DIGIT.P3 (R130). -/
  | fDigitP3 (f : Frame)
  /-- F.DIGIT.P4 (R130). -/
  | fDigitP4 (f : Frame)
  /-- F.LED (R160). -/
  | fLed (f : Frame)
  /-- F.BTN.POWER (R171). -/
  | fBtnPower (f : Frame)
  /-- F.BTN.FILTER (R171). -/
  | fBtnFilter (f : Frame)
  /-- F.BTN.HEATER (R171). -/
  | fBtnHeater (f : Frame)
  /-- F.BTN.BUBBLE (R171). -/
  | fBtnBubble (f : Frame)
  /-- F.BTN.TEMP_UP (R171). -/
  | fBtnTempUp (f : Frame)
  /-- F.BTN.TEMP_DOWN (R171). -/
  | fBtnTempDown (f : Frame)
  /-- F.BTN.TEMP_UNIT (R171). -/
  | fBtnTempUnit (f : Frame)
  /-- F.BTN.JET (R171, `EXT9`). -/
  | fBtnJet (f : Frame)
  /-- F.BTN.DISINF (R171, `EXT9`). -/
  | fBtnDisinf (f : Frame)
  /-- F.BTN.NONE (R172). -/
  | fBtnNone (f : Frame)
  /-- F.ZERO (R122). -/
  | fZero
  /-- F.UNKNOWN (R123). -/
  | fUnknown (f : Frame)
  /-- H.PRESS (R177): button and count. -/
  | hPress (b : Button) (n : Count)
  /-- H.SET_POWER (R179). -/
  | hSetPower (req : Bool)
  /-- H.SET_FILTER (R180). -/
  | hSetFilter (req : Bool)
  /-- H.SET_BUBBLE (R181). -/
  | hSetBubble (req : Bool)
  /-- H.SET_HEATER (R182). -/
  | hSetHeater (req : Bool)
  /-- H.SET_JET (R183). -/
  | hSetJet (req : Bool)
  /-- H.SET_TEMP (R184): degrees Celsius. -/
  | hSetTemp (t : Int)
  /-- H.SET_DISINF (R185): hours. -/
  | hSetDisinf (h : Int)
  /-- H.LIVENESS (R210). -/
  | hLiveness
  /-- H.GET.ONLINE (R201). -/
  | hGetOnline
  /-- H.GET.FRAMES_TOTAL (R202). -/
  | hGetFramesTotal
  /-- H.GET.FRAMES_DROPPED (R202). -/
  | hGetFramesDropped
  /-- H.GET.POWER (R203). -/
  | hGetPower
  /-- H.GET.FILTER (R203). -/
  | hGetFilter
  /-- H.GET.BUBBLE (R203). -/
  | hGetBubble
  /-- H.GET.HEATER_ON (R203). -/
  | hGetHeaterOn
  /-- H.GET.HEATER_STANDBY (R203). -/
  | hGetHeaterStandby
  /-- H.GET.BUZZER (R203). -/
  | hGetBuzzer
  /-- H.GET.JET (R203). -/
  | hGetJet
  /-- H.GET.DISINF (R203). -/
  | hGetDisinf
  /-- H.GET.LED_RAW (R203). -/
  | hGetLedRaw
  /-- H.GET.ACTUAL_C (R204). -/
  | hGetActualC
  /-- H.GET.DESIRED_C (R205). -/
  | hGetDesiredC
  /-- H.GET.DURATION_H (R206). -/
  | hGetDurationH
  /-- H.GET.ERROR (R207). -/
  | hGetError
  deriving DecidableEq, Repr

/-- The operation F.DIGIT.Pk on a frame (R130). -/
def Instr.digit : Pos → Frame → Instr
  | .p1, f => .fDigitP1 f
  | .p2, f => .fDigitP2 f
  | .p3, f => .fDigitP3 f
  | .p4, f => .fDigitP4 f

/-- The operation F.BTN.<b> on a frame (R171). -/
def Instr.button : Button → Frame → Instr
  | .power, f => .fBtnPower f
  | .filter, f => .fBtnFilter f
  | .heater, f => .fBtnHeater f
  | .bubble, f => .fBtnBubble f
  | .tempUp, f => .fBtnTempUp f
  | .tempDown, f => .fBtnTempDown f
  | .tempUnit, f => .fBtnTempUnit f
  | .jet, f => .fBtnJet f
  | .disinf, f => .fBtnDisinf f

end Sys2Proof
end

