-- ==== Sys2Proof/WellFormed.lean ====
section
/-! DEFINITION. Well-formedness of a configuration (spec/00_scope.md R11, with the legal ranges of R9) and of
an operation (the "test" of its row in spec/opcode_table.json, or the operands its rule admits). -/

namespace Sys2Proof

/-- All segment bits and the decimal point bit (R11 w2). -/
def Cfg.segBits (c : Cfg) : List Mask :=
  [c.segA, c.segB, c.segC, c.segD, c.segE, c.segF, c.segG, c.segDp]

/-- All position bits (R11 w2). -/
def Cfg.posBits (c : Cfg) : List Mask := [c.pos1, c.pos2, c.pos3, c.pos4]

/-- All lamp bits that are present (R11 w2). -/
def Cfg.lampBits (c : Cfg) : List Mask :=
  [c.lampPower, c.lampFilter, c.lampBubble, c.lampHeaterOn, c.lampHeaterStandby, c.lampNoBeep]
    ++ c.lampJet.toList ++ c.lampDisinf.toList

/-- All button bits that are present (R11 w2). -/
def Cfg.btnBits (c : Cfg) : List Mask :=
  [c.btnPower, c.btnFilter, c.btnHeater, c.btnBubble, c.btnTempUp, c.btnTempDown, c.btnTempUnit]
    ++ c.btnJet.toList ++ c.btnDisinf.toList

/-- R11 w1: every single-bit field has exactly one bit set. -/
def Cfg.w1 (c : Cfg) : Bool :=
  (c.posBits ++ c.segBits ++ [c.ledMark] ++ c.lampBits ++ c.btnBits).all oneBit

/-- R11 w2: distinct bits within the positions, the segments with the point, the buttons, the lamps. -/
def Cfg.w2 (c : Cfg) : Bool :=
  decide c.posBits.Nodup && decide c.segBits.Nodup && decide c.btnBits.Nodup && decide c.lampBits.Nodup

/-- R11 w3: `DIGIT_ANY` is disjoint from everything else. -/
def Cfg.w3 (c : Cfg) : Bool :=
  ([c.segments, c.segDp, c.cue, c.ledMark, c.buttonAny] ++ c.lampBits).all (disjoint c.digitAny)

/-- R11 w4: the LED marker is disjoint from `BUTTON_ANY`, the cue and every lamp. -/
def Cfg.w4 (c : Cfg) : Bool :=
  ([c.buttonAny, c.cue] ++ c.lampBits).all (disjoint c.ledMark)

/-- R11 w5: every button bit lies in `BUTTON_ANY`. -/
def Cfg.w5 (c : Cfg) : Bool := c.btnBits.all fun m => (m &&& c.buttonAny) == m

/-- R11 w6: the cue is not zero. -/
def Cfg.w6 (c : Cfg) : Bool := c.cue != 0#16

/-- R11 w7: `GLYPH` is an injective map, defined on the blank (no segment), the digits and the markers. -/
def Cfg.w7 (c : Cfg) : Bool :=
  decide (c.glyphs.map Prod.fst).Nodup && decide (c.glyphs.map Prod.snd).Nodup
    && c.glyphs.contains (.blank, ⟨false, false, false, false, false, false, false⟩)
    && ([.d0, .d1, .d2, .d3, .d4, .d5, .d6, .d7, .d8, .d9, c.unitC, c.unitF, c.errorMarker]
          ++ c.durationMarker.toList).all ((c.glyphs.map Prod.fst).contains ·)

/-- R11 w8: every threshold and press count is at least 1 (at most 255 by its 8-bit type; log 4). -/
def Cfg.w8 (c : Cfg) : Bool :=
  [c.confirmDisp, c.confirmBlank, c.confirmActual, c.confirmLed, c.pressCount, c.pressShortCount].all
    (· != 0#8)

/-- R11 w9: the clamp range is a range inside the range of readings. -/
def Cfg.w9 (c : Cfg) : Bool :=
  decide (c.tempMin ≤ c.tempSetMin) && decide (c.tempSetMin ≤ c.tempSetMax) && decide (c.tempSetMax ≤ c.tempMax)

/-- R11 w10: which optional fields the variant has. -/
def Cfg.w10 (c : Cfg) : Bool :=
  match c.variant with
  | .base7 => c.lampJet.isNone && c.lampDisinf.isNone && c.btnJet.isNone && c.btnDisinf.isNone
      && c.durationMarker.isNone
  | .ext9 => c.lampJet.isSome && c.lampDisinf.isSome && c.btnJet.isSome && c.btnDisinf.isSome

/-- The well-formedness of R11, all ten constraints. -/
def Cfg.wellFormed (c : Cfg) : Bool :=
  c.w1 && c.w2 && c.w3 && c.w4 && c.w5 && c.w6 && c.w7 && c.w8 && c.w9 && c.w10

/-- The ranges that the column "Type" of R9 gives beside R11 (log 5). -/
def Cfg.ranges (c : Cfg) : Bool :=
  decide (c.pressShortCount < c.pressCount) && decide (1 ≤ c.blinkTempFrames) && decide (1 ≤ c.ackTries)
    && decide (1 ≤ c.buzzerWaitTries)

/-- The configurations that construction accepts (R11, R44, R250). -/
def Cfg.accepted (c : Cfg) : Bool := c.wellFormed && c.ranges

/-- No bit of a button that stands before `b` in `BUTTONS` is set (the opcode table's "test"). -/
def Cfg.noEarlierButton (c : Cfg) (b : Button) (f : Frame) : Bool :=
  (c.buttons.takeWhile (· != b)).all fun b' => !(c.btn b').any (hits f)

/-- The "test" of an F.BTN.<b> row of spec/opcode_table.json. -/
def Cfg.buttonTest (c : Cfg) (b : Button) (f : Frame) : Bool :=
  f != c.cue && !hits f (c.digitAny ||| c.ledMark) && (c.btn b).any (hits f) && c.noEarlierButton b f

/-- The well-formed operations: the "test" of the row in spec/opcode_table.json for a frame operation, the
operands of R177 and R45 for H.PRESS; every other operation admits every operand. -/
def Instr.wellFormed (c : Cfg) : Instr → Bool
  | .sShift _ => true
  | .sComplete => true
  | .sDrop => true
  | .sIdle => true
  | .fCue => true
  | .fDigitP1 f => f != c.cue && hits f c.pos1
  | .fDigitP2 f => f != c.cue && hits f c.pos2 && !hits f c.pos1
  | .fDigitP3 f => f != c.cue && hits f c.pos3 && !hits f c.pos1 && !hits f c.pos2
  | .fDigitP4 f => f != c.cue && hits f c.pos4 && !hits f c.pos1 && !hits f c.pos2 && !hits f c.pos3
  | .fLed f => f != c.cue && !hits f c.digitAny && hits f c.ledMark
  | .fBtnPower f => c.buttonTest .power f
  | .fBtnFilter f => c.buttonTest .filter f
  | .fBtnHeater f => c.buttonTest .heater f
  | .fBtnBubble f => c.buttonTest .bubble f
  | .fBtnTempUp f => c.buttonTest .tempUp f
  | .fBtnTempDown f => c.buttonTest .tempDown f
  | .fBtnTempUnit f => c.buttonTest .tempUnit f
  | .fBtnJet f => c.buttonTest .jet f
  | .fBtnDisinf f => c.buttonTest .disinf f
  | .fBtnNone f => f != c.cue && !hits f (c.digitAny ||| c.ledMark) && hits f c.buttonAny
      && c.buttons.all fun b => !(c.btn b).any (hits f)
  | .fZero => true
  | .fUnknown f => f != 0#16 && f != c.cue && !hits f c.digitAny && !hits f c.ledMark && !hits f c.buttonAny
  | .hPress b n => (c.buttons.contains b && b != .tempUnit) && (n == c.pressCount || n == c.pressShortCount)
  | .hSetPower _ => true
  | .hSetFilter _ => true
  | .hSetBubble _ => true
  | .hSetHeater _ => true
  | .hSetJet _ => true
  | .hSetTemp _ => true
  | .hSetDisinf _ => true
  | .hLiveness => true
  | .hGetOnline => true
  | .hGetFramesTotal => true
  | .hGetFramesDropped => true
  | .hGetPower => true
  | .hGetFilter => true
  | .hGetBubble => true
  | .hGetHeaterOn => true
  | .hGetHeaterStandby => true
  | .hGetBuzzer => true
  | .hGetJet => true
  | .hGetDisinf => true
  | .hGetLedRaw => true
  | .hGetActualC => true
  | .hGetDesiredC => true
  | .hGetDurationH => true
  | .hGetError => true

end Sys2Proof
end

