-- ==== Sys2Proof/Decode.lean ====
section
/-! DEFINITION. From what selects an operation to the operation, and back: the selection by a clock edge
(spec/40_sampler.md R110), by a completed frame (spec/30_encoding.md R80 to R93, spec/41_classifier.md R120)
and by a host operation's name (R62, R99). Decoding is total and rejects by name. -/

namespace Sys2Proof

/-- The argument of a host call (R97). -/
inductive HostArg where
  /-- No argument. -/
  | noArg
  /-- The requested boolean of a toggle (R178). -/
  | req (on : Bool)
  /-- Button and count of the press primitive (R177). -/
  | press (b : Button) (n : Count)
  /-- The integer of a setpoint command (R184, R185). -/
  | int (t : Int)
  deriving DecidableEq, Repr

/-- A host call: the operation's name is the selector (R62, D29), with its argument. -/
structure HostCall where
  name : String
  arg : HostArg
  deriving DecidableEq, Repr

/-- What selects an operation. -/
inductive Code where
  /-- A rising clock edge: the logical enable, the sampled bit, and `nbits` before the operation (R110). -/
  | edge (en bit : Bool) (nbits : BitVec 5)
  /-- A completed frame (R82). -/
  | frame (f : Frame)
  /-- A host call (R62). -/
  | call (c : HostCall)
  deriving DecidableEq, Repr

/-- Why a text or a bit string selects no operation. -/
inductive DecodeError where
  /-- No host operation has this name (R62; R73: "a host operation called `fence` is refused"). -/
  | unknownOperation (name : String)
  /-- The operation exists, and its argument has another kind (R97). -/
  | badArgument (name : String)
  /-- The bit string is not 16 bits long (R80). -/
  | notOneFrame (length : Nat)
  deriving DecidableEq, Repr

/-! ## Fields of a frame -/

/-- The union of the segment bits of a set of segments, `segmask` (R89). -/
def segmask (c : Cfg) (g : SegSet) : Mask :=
  (if g.a then c.segA else 0#16) ||| (if g.b then c.segB else 0#16) ||| (if g.c then c.segC else 0#16)
    ||| (if g.d then c.segD else 0#16) ||| (if g.e then c.segE else 0#16) ||| (if g.f then c.segF else 0#16)
    ||| (if g.g then c.segG else 0#16)

/-- The character whose segments are exactly the pattern, or none (R89). -/
def decodeGlyph (c : Cfg) (pat : Mask) : Option Glyph :=
  (c.glyphs.find? fun r => segmask c r.2 == pat).map Prod.fst

/-- The segments of a character, when the configuration's table has it (R88). -/
def glyphSegs (c : Cfg) (ch : Glyph) : Option SegSet :=
  (c.glyphs.find? fun r => r.1 == ch).map Prod.snd

/-- The character of a DIGIT frame: the decimal point and all other bits are masked away (R85, R89). -/
def frameGlyph (c : Cfg) (f : Frame) : Option Glyph := decodeGlyph c (f &&& c.segments)

/-- The least position whose bit is set (R90). -/
def position (c : Cfg) (f : Frame) : Option Pos :=
  if hits f c.pos1 then some .p1
  else if hits f c.pos2 then some .p2
  else if hits f c.pos3 then some .p3
  else if hits f c.pos4 then some .p4
  else none

/-- The first button in the order of `BUTTONS` whose bit is set (R93). -/
def buttonOf (c : Cfg) (f : Frame) : Option Button :=
  c.buttons.find? fun b => (c.btn b).any (hits f)

/-! ## The class of a frame -/

/-- The frame operations without their operand (R8 group 2). -/
inductive FrameOp where
  | cue
  | digit (k : Pos)
  | led
  | button (b : Button)
  | buttonNone
  | zero
  | unknown
  deriving DecidableEq, Repr

/-- The selection of R120 with the refinements of R90 and R93: the first test that succeeds decides. -/
def selectFrame (c : Cfg) (f : Frame) : FrameOp :=
  if f == c.cue then .cue
  else match position c f with
    | some k => .digit k
    | none =>
      if hits f c.ledMark then .led
      else if hits f c.buttonAny then
        match buttonOf c f with
        | some b => .button b
        | none => .buttonNone
      else if f == 0#16 then .zero
      else .unknown

/-- The operation a frame operation stands for, with the frame value as its operand. -/
def FrameOp.instr : FrameOp → Frame → Instr
  | .cue, _ => .fCue
  | .digit k, f => Instr.digit k f
  | .led, f => .fLed f
  | .button b, f => Instr.button b f
  | .buttonNone, f => .fBtnNone f
  | .zero, _ => .fZero
  | .unknown, f => .fUnknown f

/-- The operation that a completed frame selects (R82, R94: every frame value selects one). -/
def decodeFrame (c : Cfg) (f : Frame) : Instr := (selectFrame c f).instr f

/-- The frame value of a string of logical bits, the first one at bit 15 (R63, R81). -/
def frameOfBits (bits : List Bool) : Frame :=
  bits.foldl (fun f b => (f <<< 1) ||| (BitVec.ofBool b).setWidth 16) 0#16

/-- The bits of a frame value, first on the wire first (R63). -/
def bitsOfFrame (f : Frame) : List Bool :=
  [f.getLsbD 15, f.getLsbD 14, f.getLsbD 13, f.getLsbD 12, f.getLsbD 11, f.getLsbD 10, f.getLsbD 9, f.getLsbD 8,
   f.getLsbD 7, f.getLsbD 6, f.getLsbD 5, f.getLsbD 4, f.getLsbD 3, f.getLsbD 2, f.getLsbD 1, f.getLsbD 0]

/-- The operation that a string of logical bits selects: a frame is exactly 16 bits (R80). -/
def decodeBits (c : Cfg) (bits : List Bool) : Except DecodeError Instr :=
  if bits.length = 16 then .ok (decodeFrame c (frameOfBits bits)) else .error (.notOneFrame bits.length)

/-! ## Selection by a clock edge and by a name -/

/-- The sampler operation that an edge selects (R110); S.COMPLETE when S.SHIFT has just made `nbits` 16 (R112). -/
def decodeEdge (en bit : Bool) (nbits : BitVec 5) : Instr :=
  if nbits == 16#5 then .sComplete
  else if en || nbits == 15#5 then .sShift bit
  else if nbits != 0#5 then .sDrop
  else .sIdle

/-- A call without argument. -/
def nullary (c : HostCall) (i : Instr) : Except DecodeError Instr :=
  match c.arg with
  | .noArg => .ok i
  | .req _ | .press _ _ | .int _ => .error (.badArgument c.name)

/-- A call of a toggle (R178). -/
def unaryBool (c : HostCall) (i : Bool → Instr) : Except DecodeError Instr :=
  match c.arg with
  | .req on => .ok (i on)
  | .noArg | .press _ _ | .int _ => .error (.badArgument c.name)

/-- A call of a setpoint command (R184, R185). -/
def unaryInt (c : HostCall) (i : Int → Instr) : Except DecodeError Instr :=
  match c.arg with
  | .int t => .ok (i t)
  | .noArg | .press _ _ | .req _ => .error (.badArgument c.name)

/-- A call of the press primitive (R177). -/
def pressCall (c : HostCall) : Except DecodeError Instr :=
  match c.arg with
  | .press b n => .ok (.hPress b n)
  | .noArg | .req _ | .int _ => .error (.badArgument c.name)

/-- The host operation that a call names (R62, R99); the names are the mnemonics of spec/opcode_table.json. -/
def decodeCall (c : HostCall) : Except DecodeError Instr :=
  match c.name with
  | "H.PRESS" => pressCall c
  | "H.SET_POWER" => unaryBool c .hSetPower
  | "H.SET_FILTER" => unaryBool c .hSetFilter
  | "H.SET_BUBBLE" => unaryBool c .hSetBubble
  | "H.SET_HEATER" => unaryBool c .hSetHeater
  | "H.SET_JET" => unaryBool c .hSetJet
  | "H.SET_TEMP" => unaryInt c .hSetTemp
  | "H.SET_DISINF" => unaryInt c .hSetDisinf
  | "H.LIVENESS" => nullary c .hLiveness
  | "H.GET.ONLINE" => nullary c .hGetOnline
  | "H.GET.FRAMES_TOTAL" => nullary c .hGetFramesTotal
  | "H.GET.FRAMES_DROPPED" => nullary c .hGetFramesDropped
  | "H.GET.POWER" => nullary c .hGetPower
  | "H.GET.FILTER" => nullary c .hGetFilter
  | "H.GET.BUBBLE" => nullary c .hGetBubble
  | "H.GET.HEATER_ON" => nullary c .hGetHeaterOn
  | "H.GET.HEATER_STANDBY" => nullary c .hGetHeaterStandby
  | "H.GET.BUZZER" => nullary c .hGetBuzzer
  | "H.GET.JET" => nullary c .hGetJet
  | "H.GET.DISINF" => nullary c .hGetDisinf
  | "H.GET.LED_RAW" => nullary c .hGetLedRaw
  | "H.GET.ACTUAL_C" => nullary c .hGetActualC
  | "H.GET.DESIRED_C" => nullary c .hGetDesiredC
  | "H.GET.DURATION_H" => nullary c .hGetDurationH
  | "H.GET.ERROR" => nullary c .hGetError
  | name => .error (.unknownOperation name)

/-- The operation that a code selects. -/
def decode (c : Cfg) : Code → Except DecodeError Instr
  | .edge en bit nbits => .ok (decodeEdge en bit nbits)
  | .frame f => .ok (decodeFrame c f)
  | .call h => decodeCall h

/-! ## The encoder -/

/-- A code that selects the operation: the frame value of a frame operation, the name and argument of a host
operation, an edge that selects a sampler operation. -/
def encode (c : Cfg) : Instr → Code
  | .sShift bit => .edge true bit 0#5
  | .sComplete => .edge true false 16#5
  | .sDrop => .edge false false 1#5
  | .sIdle => .edge false false 0#5
  | .fCue => .frame c.cue
  | .fDigitP1 f => .frame f
  | .fDigitP2 f => .frame f
  | .fDigitP3 f => .frame f
  | .fDigitP4 f => .frame f
  | .fLed f => .frame f
  | .fBtnPower f => .frame f
  | .fBtnFilter f => .frame f
  | .fBtnHeater f => .frame f
  | .fBtnBubble f => .frame f
  | .fBtnTempUp f => .frame f
  | .fBtnTempDown f => .frame f
  | .fBtnTempUnit f => .frame f
  | .fBtnJet f => .frame f
  | .fBtnDisinf f => .frame f
  | .fBtnNone f => .frame f
  | .fZero => .frame 0#16
  | .fUnknown f => .frame f
  | .hPress b n => .call ⟨"H.PRESS", .press b n⟩
  | .hSetPower on => .call ⟨"H.SET_POWER", .req on⟩
  | .hSetFilter on => .call ⟨"H.SET_FILTER", .req on⟩
  | .hSetBubble on => .call ⟨"H.SET_BUBBLE", .req on⟩
  | .hSetHeater on => .call ⟨"H.SET_HEATER", .req on⟩
  | .hSetJet on => .call ⟨"H.SET_JET", .req on⟩
  | .hSetTemp t => .call ⟨"H.SET_TEMP", .int t⟩
  | .hSetDisinf h => .call ⟨"H.SET_DISINF", .int h⟩
  | .hLiveness => .call ⟨"H.LIVENESS", .noArg⟩
  | .hGetOnline => .call ⟨"H.GET.ONLINE", .noArg⟩
  | .hGetFramesTotal => .call ⟨"H.GET.FRAMES_TOTAL", .noArg⟩
  | .hGetFramesDropped => .call ⟨"H.GET.FRAMES_DROPPED", .noArg⟩
  | .hGetPower => .call ⟨"H.GET.POWER", .noArg⟩
  | .hGetFilter => .call ⟨"H.GET.FILTER", .noArg⟩
  | .hGetBubble => .call ⟨"H.GET.BUBBLE", .noArg⟩
  | .hGetHeaterOn => .call ⟨"H.GET.HEATER_ON", .noArg⟩
  | .hGetHeaterStandby => .call ⟨"H.GET.HEATER_STANDBY", .noArg⟩
  | .hGetBuzzer => .call ⟨"H.GET.BUZZER", .noArg⟩
  | .hGetJet => .call ⟨"H.GET.JET", .noArg⟩
  | .hGetDisinf => .call ⟨"H.GET.DISINF", .noArg⟩
  | .hGetLedRaw => .call ⟨"H.GET.LED_RAW", .noArg⟩
  | .hGetActualC => .call ⟨"H.GET.ACTUAL_C", .noArg⟩
  | .hGetDesiredC => .call ⟨"H.GET.DESIRED_C", .noArg⟩
  | .hGetDurationH => .call ⟨"H.GET.DURATION_H", .noArg⟩
  | .hGetError => .call ⟨"H.GET.ERROR", .noArg⟩

/-! ## One word of the opcode table -/

/-- The frame operation that the frame `w` selects under `CFG_REF9`, the reference configuration in which every
frame row of the table has a frame (log 1). The word goes on the wire bit 15 first; a longer one is no frame. -/
def decodeTableWord (nbits w : Nat) : Option Instr :=
  if nbits ≤ 16 then
    match decodeBits Cfg.ref9 (bitsOfFrame (BitVec.ofNat 16 w)) with
    | .ok i => some i
    | .error _ => none
  else none

end Sys2Proof
end

