-- ==== Sys2Proof/Machine/State.lean ====
section
/-! DEFINITION. The state of one instance of the bus decoder (spec/10_state.md R20 to R47), the reasons a step can
stop, and the state after construction. -/

namespace Sys2Proof.Machine

/-! ## Registers of the interrupt side -/

/-- The value of `dpos`: the position the next accepted DIGIT frame must select (R24). -/
inductive DPos where
  | aw1
  | aw2
  | aw3
  | aw4
  deriving DecidableEq, Repr

/-- The three characters of an error code, positions 2 to 4 of the composite (R40, R143). -/
structure ErrorCode where
  c2 : Glyph
  c3 : Glyph
  c4 : Glyph
  deriving DecidableEq, Repr

/-- Registers of the Bus Sampler. -/
structure Sampler where
  /-- R21: the 16-bit frame register. -/
  sr : Frame
  /-- R22: bits shifted since the last frame boundary. -/
  nbits : BitVec 5
  /-- R42: total frames, modulo 2^`W_FC` (log 18). -/
  frameTotal : Nat
  /-- R42: dropped frames, modulo 2^`W_FC` (log 18). -/
  frameDropped : Nat
  deriving DecidableEq, Repr

/-- Registers of the Display Decoder; `none` is `UNDEF` (R14). -/
structure Display where
  /-- R24. -/
  dpos : DPos
  /-- R25: the accumulating composite. -/
  comp : Composite
  /-- R26: the last unconfirmed composite. -/
  latest : Option Composite
  /-- R27. -/
  stableCnt : Count
  /-- R28. -/
  blankCnt : Count
  /-- R29: `frame_total` at the most recent confirmed blank with `blank_cnt = 0`. -/
  lastBlankFc : Nat
  /-- R30. -/
  blinkCount : Count
  /-- R31. -/
  blinkPending : Option Composite
  /-- R32. -/
  blinkStab : Count
  /-- R33. -/
  actualCand : Option Composite
  /-- R34. -/
  actualCnt : Count
  /-- R36. -/
  blinking : Bool
  /-- R40: the published actual reading. -/
  pubActual : Option Composite
  /-- R40: the published desired reading. -/
  pubDesired : Option Composite
  /-- R40: the published duration reading. -/
  pubDuration : Option Composite
  /-- R40: the error latch. -/
  errCode : Option ErrorCode
  deriving DecidableEq, Repr

/-- Registers of the LED decoder; `none` is `UNDEF`. The lamp booleans are views of `pubLed` (R39). -/
structure Led where
  /-- R35: the previously seen raw value. -/
  latest : Option Frame
  /-- R35. -/
  cnt : Count
  /-- R41: the confirmed lamp bitmask, whole frame value. -/
  pubLed : Option Frame
  deriving DecidableEq, Repr

/-- The press-counter file, one 8-bit counter per button (R45). On `BASE7` the last two places belong to no
button and stay 0 (log 15). -/
structure PressFile where
  power : Count
  filter : Count
  heater : Count
  bubble : Count
  tempUp : Count
  tempDown : Count
  tempUnit : Count
  jet : Count
  disinf : Count
  deriving DecidableEq, Repr

/-! ## The reply-pulse generator -/

/-- The state of RPG (R46). `armed` records whether the latch line has been high since the reply was scheduled,
that is whether the start delay is running (R173; log 13). -/
inductive Rpg where
  | idle
  | armed (latchSeen : Bool)
  | drive
  deriving DecidableEq, Repr

/-- The driver of the data pin (R16, R61): an input, or driven low; never driven high. -/
inductive DataPin where
  | input
  | drivenLow
  deriving DecidableEq, Repr

/-- The output event `Reply(b, frame_total)` of a scheduled reply (R174). -/
structure Reply where
  button : Button
  frame : Nat
  deriving DecidableEq, Repr

/-- Registers of the reply side and the pins it uses. -/
structure ReplyGen where
  /-- R46. -/
  rpg : Rpg
  /-- R46, R230: the data pin driver. -/
  dataPin : DataPin
  /-- MODEL's own: the level of the latch line as last seen by the block (R173, R232; log 14). -/
  latchLevel : Level
  deriving DecidableEq, Repr

/-! ## The foreground -/

/-- The host operation in progress, `op` of BUSY(op, place, locals) (R43). -/
inductive HostOp where
  | press
  | setPower
  | setFilter
  | setBubble
  | setHeater
  | setJet
  | setTemp
  | setDisinf
  deriving DecidableEq, Repr

/-- Who called H.PRESS, with the caller's locals: where its result goes (R177 to R185). -/
inductive Caller where
  /-- H.PRESS itself, or a toggle that returns its result (R178). -/
  | direct
  /-- The probe press of H.SET_TEMP: the clamped target (R184). -/
  | probe (target : Int)
  /-- A tap of H.SET_TEMP: target, presses left after this one, expected readback (R184). -/
  | tempStep (target : Int) (presses : Nat) (expect : Int)
  /-- A press of H.SET_DISINF: target, presses left after this one, reading before it (R185). -/
  | disinfStep (target : Int) (presses : Nat) (cur : Option Int)
  deriving DecidableEq, Repr

/-- A program point of the commands' pseudocode: the next access to a register (R7, R43). -/
inductive Point where
  /-- R177 phase 1: read the buzzer, `tries` polls left. -/
  | pollQuiet (b : Button) (n : Count) (tries : Nat) (k : Caller)
  /-- R177 phase 1: the read of the buzzer after the loop. -/
  | checkQuiet (b : Button) (n : Count) (k : Caller)
  /-- R177 phase 2: write the press counter. -/
  | arm (b : Button) (n : Count) (k : Caller)
  /-- R177 phase 2: read the press counter, `tries` polls left. -/
  | pollAck (b : Button) (tries : Nat) (k : Caller)
  /-- R177: the final read of the buzzer. -/
  | readBuzzer (b : Button) (k : Caller)
  /-- R177: write 0 to the press counter and return. -/
  | disarm (b : Button) (ok : Bool) (k : Caller)
  /-- R182: the second lamp of H.SET_HEATER. -/
  | readStandby (req : Bool)
  /-- R184: read back after the probe, `tries` polls left after this one. -/
  | readProbe (target : Int) (tries : Nat)
  /-- R184: read back after a tap. -/
  | readStep (target : Int) (presses : Nat) (expect : Int) (tries : Nat)
  /-- R185: read back after a press of DISINF. -/
  | readDisinf (target : Int) (presses : Nat) (cur : Option Int) (tries : Nat)
  deriving DecidableEq, Repr

/-- Where a running command stands: about to act, or suspended in a Wait with so many ticks left (R17, R43). -/
inductive Place where
  | ready (p : Point)
  | waiting (ticks : Nat) (p : Point)
  deriving DecidableEq, Repr

/-- The foreground command sequencer `cmd` (R43). -/
inductive Cmd where
  | idle
  | busy (op : HostOp) (place : Place)
  deriving DecidableEq, Repr

/-- Registers that only the foreground writes. -/
structure Foreground where
  /-- R38. -/
  online : Bool
  /-- R38: the time of the last consumed `state_updated`. -/
  lastUpdateMs : Millis
  /-- R43. -/
  cmd : Cmd
  deriving DecidableEq, Repr

/-! ## The outside world (fields of the model) -/

/-- A value a host operation returns (R67, R200; `none` is the sentinel UNDEF of R221). -/
inductive HostValue where
  /-- A command's result, or the online flag (R201, R223). -/
  | bool (v : Bool)
  /-- A tri-state boolean (R14, R203). -/
  | tri (v : Option Bool)
  /-- A reading in degrees or hours (R204 to R206). -/
  | reading (v : Option Int)
  /-- A frame counter (R202). -/
  | counter (v : Nat)
  /-- The raw lamp bitmask (R203). -/
  | mask (v : Option Frame)
  /-- The error code (R207). -/
  | error (v : Option ErrorCode)
  /-- H.LIVENESS returns no value (R210). -/
  | unit
  deriving DecidableEq, Repr

/-- One input of the environment; the list of them fixes one interleaving of the agents (R7, R71, R97). -/
inductive Event where
  /-- `CLK d l`: a rising clock edge with the data line at `d` and the latch line at `l` (R97). -/
  | clk (d l : Level)
  /-- FG takes its next action, if a command is running and not in a Wait (R7). -/
  | fg
  /-- One tick of a pending Wait passes (R97 `TICK`). -/
  | tick
  /-- `NOW t`: Now() returns `t` from here on (R97). -/
  | now (t : Millis)
  /-- HOST starts an operation (R6, R97). -/
  | host (c : HostCall)
  /-- The latch line goes to this level between two clock edges (R173). -/
  | latch (l : Level)
  /-- The start delay `T_REPLY_START` of an armed reply is over (R174). -/
  | replyStart
  /-- The pulse width `T_REPLY_WIDTH` is over (R174). -/
  | replyEnd
  deriving DecidableEq, Repr

/-- The model's own fields: inputs to come, outputs so far, the platform's clock (log 2, 8, 12, 20). -/
structure World where
  /-- The value Now() returns (R17, R231). -/
  nowMs : Millis
  /-- The events still to come. -/
  inputs : List Event
  /-- The output events of RPG, oldest first (R174). -/
  replies : List Reply
  /-- What the last host operation that returned handed to HOST. -/
  result : Option HostValue
  /-- Which free value the next bit sampled under the block's own pulse takes (U6). -/
  freeCount : Nat
  deriving DecidableEq, Repr

/-- The state of one instance (R20), grouped by the context that writes it (R230). -/
structure State where
  /-- R44: the configuration, written by no rule. -/
  cfg : Cfg
  /-- Written by ISR. -/
  sampler : Sampler
  /-- Written by ISR. -/
  display : Display
  /-- Written by ISR. -/
  led : Led
  /-- R37: set by ISR, cleared by FG. -/
  stateUpdated : Bool
  /-- R45: armed and cleared by FG, decremented and cleared by ISR. -/
  press : PressFile
  /-- Written by RPG, started by ISR. -/
  reply : ReplyGen
  /-- Written by FG. -/
  fg : Foreground
  /-- The model's own fields. -/
  world : World
  deriving DecidableEq, Repr

/-! ## Why a step can stop -/

/-- Faults: none. No condition halts the block: "none of these conditions should ever halt the firmware" (R226);
every error kind is a value or a counter (R220). A closed inductive with no constructor (log 24). -/
inductive Fault where
  deriving DecidableEq, Repr

/-- Refusals: actions that the spec gives no transition. -/
inductive Refusal where
  /-- Raised by an arm of `exec` whose instruction has no meaning yet (none is left). Safe. -/
  | notModelled (mnemonic : String)
  /-- Raised by a command or H.LIVENESS started while a command runs: "a command started while `cmd != IDLE` is
  refused" (R186, R210, U9). Safe: HOST has no such action. -/
  | hostBusy (running : HostOp)
  /-- Raised by a host call that names no operation or carries an argument of another kind (R62, R73). Safe. -/
  | badCall (e : DecodeError)
  /-- Raised by H.PRESS of a button that the variant does not have: its operand is "a button b in `BUTTONS`"
  (R177, R10). Safe. -/
  | buttonAbsent (b : Button)
  /-- Raised by H.PRESS of TEMP_UNIT, which "no host operation arms" (R45, R266, D19), or with a count that is neither
  `PRESS_COUNT` nor `PRESS_SHORT_COUNT`, the two that FG writes (R45, R177). Safe: HOST has no such action (log 16). -/
  | pressNotMade (b : Button) (n : Count)
  /-- Raised by construction with a configuration that is not well formed (R11, R250, U3). Safe. -/
  | badConfig
  deriving DecidableEq, Repr

/-- The five error kinds (R220). -/
inductive ErrorKind where
  /-- R221. -/
  | undefinedValue
  /-- R222. -/
  | linkOffline
  /-- R223. -/
  | commandTimeout
  /-- R224: with the three trailing characters. -/
  | deviceError (code : ErrorCode)
  /-- R225. -/
  | framingAnomaly
  deriving DecidableEq, Repr

/-! ## Construction -/

/-- The state after construction with `cfg` at the time `now` (R47, R250). -/
def State.fresh (cfg : Cfg) (now : Millis) : State where
  cfg := cfg
  sampler := { sr := 0#16, nbits := 0#5, frameTotal := 0, frameDropped := 0 }
  display :=
    { dpos := .aw1, comp := .blank4, latest := none, stableCnt := cfg.confirmDisp, blankCnt := cfg.confirmBlank,
      lastBlankFc := 0, blinkCount := 0#8, blinkPending := none, blinkStab := 0#8, actualCand := none,
      actualCnt := cfg.confirmActual, blinking := false, pubActual := none, pubDesired := none,
      pubDuration := none, errCode := none }
  led := { latest := none, cnt := cfg.confirmLed, pubLed := none }
  stateUpdated := false
  press := ⟨0#8, 0#8, 0#8, 0#8, 0#8, 0#8, 0#8, 0#8, 0#8⟩
  reply := { rpg := .idle, dataPin := .input, latchLevel := .high }
  fg := { online := false, lastUpdateMs := now, cmd := .idle }
  world := { nowMs := now, inputs := [], replies := [], result := none, freeCount := 0 }

/-- The machine right after reset: a fresh instance with `CFG_REF9` at time 0. R44 gives `CFG` no reset value (it
is the argument of construction); `CFG_REF9` is the model's choice (log 1), time 0 too (log 20). -/
def State.reset : State := State.fresh Cfg.ref9 0#32

end Sys2Proof.Machine
end

