-- ==== Sys2Proof/Machine/Ops.lean ====
section
/-! DEFINITION. The shared operations over the state: sequencing of outcomes, counters, the press-counter file, the
recording of an error kind, the bus primitives and the reply-pulse generator, the foreground primitives, and
construction. -/

namespace Sys2Proof.Machine

/-- The outcome of an operation. -/
abbrev Result := Host.Outcome State Fault Refusal

/-- Go on with `k` after a next state; a stop stays a stop. -/
def andThen (o : Result) (k : State → Result) : Result :=
  match o with
  | .next s => k s
  | .fault r => .fault r
  | .refused r => .refused r

/-! ## Counters -/

/-- One more, saturating at 255: `sat8(c + 1)` (R17). -/
def satSucc (c : Count) : Count := if c == 255#8 then c else c + 1#8

/-- A frame counter's value modulo 2^`W_FC` (R42). -/
def wrapFc (c : Cfg) (n : Nat) : Nat := n % 2 ^ c.wFc

/-- `(now - last) mod 2^W_FC` (R140, R270). -/
def fcAge (c : Cfg) (now last : Nat) : Nat :=
  wrapFc c (wrapFc c now + (2 ^ c.wFc - wrapFc c last))

/-- `frame_total` advances by one (R112, R113). -/
def countTotal (s : State) : State :=
  { s with sampler.frameTotal := wrapFc s.cfg (s.sampler.frameTotal + 1) }

/-- `frame_dropped` advances by one (R113). -/
def countDropped (s : State) : State :=
  { s with sampler.frameDropped := wrapFc s.cfg (s.sampler.frameDropped + 1) }

/-! ## The press-counter file (R45) -/

/-- `press_cnt[b]`. -/
def PressFile.get (p : PressFile) : Button → Count
  | .power => p.power
  | .filter => p.filter
  | .heater => p.heater
  | .bubble => p.bubble
  | .tempUp => p.tempUp
  | .tempDown => p.tempDown
  | .tempUnit => p.tempUnit
  | .jet => p.jet
  | .disinf => p.disinf

/-- `press_cnt[b] <- n`. -/
def PressFile.set (p : PressFile) (b : Button) (n : Count) : PressFile :=
  match b with
  | .power => { p with power := n }
  | .filter => { p with filter := n }
  | .heater => { p with heater := n }
  | .bubble => { p with bubble := n }
  | .tempUp => { p with tempUp := n }
  | .tempDown => { p with tempDown := n }
  | .tempUnit => { p with tempUnit := n }
  | .jet => { p with jet := n }
  | .disinf => { p with disinf := n }

/-- Every press counter 0 (R47, R161). -/
def PressFile.zero : PressFile := ⟨0#8, 0#8, 0#8, 0#8, 0#8, 0#8, 0#8, 0#8, 0#8⟩

/-- `press_cnt[b] <- n` in the state (R68: a plain store). -/
def setPress (b : Button) (n : Count) (s : State) : State :=
  { s with press := s.press.set b n }

/-! ## Error kinds (R220)

What the checklist calls taking an exception: `raise` records the kind and never transfers control (R15, R220,
R226). There is no return from one and nothing to restore (R229). -/

/-- The recording of DeviceError: the three characters after the marker (R143, R224). -/
def Display.record (d : Display) (code : ErrorCode) : Display := { d with errCode := some code }

/-- `raise <Kind>(info)`: the recording of the table of R220, and nothing else. -/
def raise (k : ErrorKind) (s : State) : State :=
  match k with
  | .undefinedValue => s
  | .linkOffline => { s with fg.online := false }
  | .commandTimeout => s
  | .deviceError code => { s with display := s.display.record code }
  | .framingAnomaly => countDropped (countTotal s)

/-! ## The bus primitives (R16) and the reply-pulse generator (R173 to R175) -/

/-- The logical bit sampled at an edge: 1 when the data line is electrically low (R16, R64); a free value while
the block's own pulse is still on the line (R175, U6; log 8). -/
def sampleBit (d : Level) (s : State) : Bool :=
  match s.reply.dataPin with
  | .input => d == .low
  | .drivenLow => Config.freeBit s.world.freeCount

/-- The logical enable sampled at an edge: active low (R16, R64, D2). -/
def sampleEnable (l : Level) : Bool := l == .low

/-- `DriveDataLow()` (R16). -/
def driveDataLow (s : State) : State := { s with reply.dataPin := .drivenLow }

/-- `ReleaseData()` (R16). -/
def releaseData (s : State) : State := { s with reply.dataPin := .input }

/-- At a rising clock edge a generator that is not idle releases the line and goes idle (R175). -/
def forceRelease (s : State) : State :=
  match s.reply.rpg with
  | .idle => s
  | .armed _ | .drive => { releaseData s with reply.rpg := .idle }

/-- What an edge does before the sampler step: the forced release (R175, R228 b), and the block has seen the
latch level of this edge. A free value is used up when the own pulse was on the line (log 8). -/
def edgeStart (l : Level) (s : State) : State :=
  let used := match s.reply.dataPin with
    | .input => 0
    | .drivenLow => 1
  { forceRelease s with reply.latchLevel := l, world.freeCount := s.world.freeCount + used }

/-- `StartReply()` after an echo of button `b`: arm the generator (R173) and emit the event `Reply` (R174). A latch
line that is already high starts the delay at once (R173). -/
def startReply (b : Button) (s : State) : State :=
  { s with
    reply.rpg := .armed (s.reply.latchLevel == .high)
    world.replies := s.world.replies ++ [⟨b, s.sampler.frameTotal⟩] }

/-- The latch line moves between two edges; an armed generator that sees it high starts its delay (R173). -/
def latchMoves (l : Level) (s : State) : State :=
  let rpg := match s.reply.rpg with
    | .idle => .idle
    | .armed seen => .armed (seen || l == .high)
    | .drive => .drive
  { s with reply.latchLevel := l, reply.rpg := rpg }

/-- The start delay is over: drive the data line low (R174). Without a running delay nothing happens. -/
def replyStart (s : State) : State :=
  match s.reply.rpg with
  | .armed true => { driveDataLow s with reply.rpg := .drive }
  | .idle | .armed false | .drive => s

/-- The pulse width is over: release the data line (R174). Without a pulse nothing happens. -/
def replyEnd (s : State) : State :=
  match s.reply.rpg with
  | .drive => { releaseData s with reply.rpg := .idle }
  | .idle | .armed _ => s

/-! ## The foreground primitives (R17, R43) -/

/-- Hand a value to HOST. -/
def answer (v : HostValue) (s : State) : State := { s with world.result := some v }

/-- `return ok`: the command ends with its result and FG is idle (R17). -/
def finish (ok : Bool) (s : State) : State := answer (.bool ok) { s with fg.cmd := .idle }

/-- `raise CommandTimeout(); return false` (R223). -/
def failTimeout (s : State) : State := finish false (raise .commandTimeout s)

/-- Go on at a program point with the next action of FG. -/
def goOn (op : HostOp) (p : Point) (s : State) : State := { s with fg.cmd := .busy op (.ready p) }

/-- `Wait(d)`, then go on at `p`; a wait of no ticks is over at once (R17; log 11). -/
def waitThen (op : HostOp) (d : Nat) (p : Point) (s : State) : State :=
  { s with fg.cmd := .busy op (if d = 0 then .ready p else .waiting d p) }

/-- One tick of a pending Wait passes (R97). -/
def tick (s : State) : State :=
  match s.fg.cmd with
  | .busy op (.waiting d p) => waitThen op (d - 1) p s
  | .idle | .busy _ (.ready _) => s

/-- Start a host operation: refused while one is running (R186, R210). -/
def startCommand (s : State) (run : State → State) : Result :=
  match s.fg.cmd with
  | .idle => .next (run s)
  | .busy op _ => .refused (.hostBusy op)

/-! ## Construction (R250) -/

/-- `new(CFG)` at the time `now`: refuse an ill-formed configuration, else the state of R47. -/
def construct (cfg : Cfg) (now : Millis) : Result :=
  if cfg.accepted then .next (State.fresh cfg now) else .refused .badConfig

end Sys2Proof.Machine
end

