-- ==== Sys2Proof/Machine/Flags.lean ====
section
/-! DEFINITION. The lamp booleans and the buzzer flag, views of `pub_led` (spec/30_encoding.md R92,
spec/43_led.md R163, spec/45_status.md R203; R39: no registers of their own). -/

namespace Sys2Proof.Machine

/-- `lamp(L, x)` (R92). -/
def lampOf (l mask : Frame) : Bool := hits l mask

/-- `buzzer(L)`: active when the no-beep bit is absent (R92). -/
def buzzerOf (c : Cfg) (l : Frame) : Bool := !hits l c.lampNoBeep

/-- A lamp accessor's value: UNDEF before the first LED publish, and for a lamp the variant lacks (R203). -/
def readLamp (x : Lamp) (s : State) : Option Bool :=
  match s.led.pubLed, s.cfg.lamp x with
  | some l, some m => some (lampOf l m)
  | some _, none => none
  | none, _ => none

/-- The buzzer accessor's value (R163, R203). -/
def readBuzzer (s : State) : Option Bool := s.led.pubLed.map (buzzerOf s.cfg)

/-- The buzzer counts as active: UNDEF counts as not active (R177). -/
def buzzerActive (s : State) : Bool := readBuzzer s == some true

end Sys2Proof.Machine
end

