-- ==== Sys2Proof/Machine/Operands.lean ====
section
/-! DEFINITION. Operand assembly and conversion: composites and their kinds (spec/30_encoding.md R91), the packing
of a composite (R14), and the numbers read from one (spec/42_display.md R148 to R150), with the operands of the
setpoint commands (spec/44_button.md R184, R185). -/

namespace Sys2Proof.Machine

/-! ## Positions and composites -/

/-- The value of `dpos` that awaits a position: `AWk` for position k (R24). -/
def awaits : Pos → DPos
  | .p1 => .aw1
  | .p2 => .aw2
  | .p3 => .aw3
  | .p4 => .aw4

/-- The value of `dpos` after position k is accepted (R130, R133). -/
def nextAwait : Pos → DPos
  | .p1 => .aw2
  | .p2 => .aw3
  | .p3 => .aw4
  | .p4 => .aw1

/-- `comp[k]` (R14). -/
def charAt (v : Composite) : Pos → Glyph
  | .p1 => v.c1
  | .p2 => v.c2
  | .p3 => v.c3
  | .p4 => v.c4

/-- `comp[k] <- ch` (R133). -/
def setChar (v : Composite) (k : Pos) (ch : Glyph) : Composite :=
  match k with
  | .p1 => { v with c1 := ch }
  | .p2 => { v with c2 := ch }
  | .p3 => { v with c3 := ch }
  | .p4 => { v with c4 := ch }

/-- `is_blank(v)` (R91). -/
def isBlank (v : Composite) : Bool := v == Composite.blank4

/-- `is_error(v)` (R91). -/
def isError (c : Cfg) (v : Composite) : Bool := v.c1 == c.errorMarker

/-- `is_temp(v)` (R91): an error composite is never one. -/
def isTemp (c : Cfg) (v : Composite) : Bool := !isError c v && (v.c4 == c.unitC || v.c4 == c.unitF)

/-- `is_duration(v)` (R91): an error composite is never one. -/
def isDuration (c : Cfg) (v : Composite) : Bool := !isError c v && c.durationMarker == some v.c4

/-- The trailing code of an error composite: the three characters after the marker (R143). -/
def errorCodeOf (v : Composite) : ErrorCode := ⟨v.c2, v.c3, v.c4⟩

/-- The ASCII code of a character (R14). -/
def ascii : Glyph → BitVec 8
  | .d0 => 0x30#8
  | .d1 => 0x31#8
  | .d2 => 0x32#8
  | .d3 => 0x33#8
  | .d4 => 0x34#8
  | .d5 => 0x35#8
  | .d6 => 0x36#8
  | .d7 => 0x37#8
  | .d8 => 0x38#8
  | .d9 => 0x39#8
  | .C => 0x43#8
  | .F => 0x46#8
  | .E => 0x45#8
  | .N => 0x4E#8
  | .D => 0x44#8
  | .H => 0x48#8
  | .blank => 0x20#8

/-- The packing of a composite: position 1 in bits 31:24, position 4 in bits 7:0 (R14). No interface shows it (R63). -/
def packComposite (v : Composite) : BitVec 32 := ascii v.c1 ++ ascii v.c2 ++ ascii v.c3 ++ ascii v.c4

/-! ## Readings -/

/-- The value of a digit character. -/
def digitOf : Glyph → Option Nat
  | .d0 => some 0
  | .d1 => some 1
  | .d2 => some 2
  | .d3 => some 3
  | .d4 => some 4
  | .d5 => some 5
  | .d6 => some 6
  | .d7 => some 7
  | .d8 => some 8
  | .d9 => some 9
  | .C | .F | .E | .N | .D | .H | .blank => none

/-- The decimal number of a list of characters, `none` when one is no digit; `acc` is the number so far. -/
def decimalFrom (acc : Nat) : List Glyph → Option Nat
  | [] => some acc
  | ch :: rest =>
    match digitOf ch with
    | some d => decimalFrom (acc * 10 + d) rest
    | none => none

/-- The first three characters without leading blanks (R148). -/
def shownChars (v : Composite) : List Glyph := [v.c1, v.c2, v.c3].dropWhile (· == .blank)

/-- `parse3(v)` (R148). -/
def parse3 (v : Composite) : Option Int :=
  match shownChars v with
  | [] => none
  | ch :: rest => (decimalFrom 0 (ch :: rest)).map Int.ofNat

/-- `round((n - 32) * 5 / 9)` to the nearest integer (R149): the floor of the quotient plus one half. -/
def fahrenheitToCelsius (n : Int) : Int := (10 * (n - 32) + 9) / 18

/-- The temperature in degrees Celsius that a composite shows, before the range test (R149). -/
def degrees (c : Cfg) (v : Composite) (n : Int) : Option Int :=
  if v.c4 == c.unitC then some n
  else if v.c4 == c.unitF then some (fahrenheitToCelsius n)
  else none

/-- A temperature outside `TEMP_MIN..TEMP_MAX` is UNDEF (R149). -/
def inRange (c : Cfg) (t : Int) : Option Int :=
  if t < c.tempMin ∨ t > c.tempMax then none else some t

/-- `celsius(v)` (R149). -/
def celsius (c : Cfg) (v : Option Composite) : Option Int :=
  match v with
  | none => none
  | some v =>
    match parse3 v with
    | none => none
    | some n =>
      match degrees c v n with
      | none => none
      | some t => inRange c t

/-- `hours(v)` (R150). -/
def hours (c : Cfg) (v : Option Composite) : Option Int :=
  match v with
  | none => none
  | some v => if c.durationMarker == some v.c4 then parse3 v else none

/-! ## Operands of the press primitive -/

/-- A button that a host operation may press: one of `BUTTONS`, and not TEMP_UNIT, whose counter "is never armed"
(R177, R45, R266, D19; log 16). -/
def mayPress (c : Cfg) (b : Button) : Bool := c.buttons.contains b && b != .tempUnit

/-- A count that FG may arm: `PRESS_COUNT` or `PRESS_SHORT_COUNT` (R45, R177). -/
def armCount (c : Cfg) (n : Count) : Bool := n == c.pressCount || n == c.pressShortCount

/-! ## Operands of the setpoint commands -/

/-- The clamp of H.SET_TEMP (R184). -/
def clampTarget (c : Cfg) (t : Int) : Int := min (max t c.tempSetMin) c.tempSetMax

/-- Distance of a member from the requested hours (R185). -/
def stepDistance (h m : Int) : Nat := (h - m).natAbs

/-- The better of two members: the nearer one, the smaller one in a tie (R185). -/
def nearer (h a b : Int) : Int :=
  if stepDistance h a < stepDistance h b then a
  else if stepDistance h b < stepDistance h a then b
  else min a b

/-- `snap(h)`: the member of `DISINF_STEPS` nearest to h (R185); a free value when there is none (log 9). -/
def snap (c : Cfg) (h : Int) : Int :=
  match c.disinfSteps with
  | [] => Config.freeTarget h
  | m :: rest => rest.foldl (nearer h) m

end Sys2Proof.Machine
end

