-- ==== Sys2Proof/Machine/Foreground.lean ====
section
/-! DEFINITION. The foreground half of the Button Command State Machine (spec/44_button.md R176 to R187): the press
primitive and the loops of the setpoint commands, one action of FG at a time (R7). An action is one read or one
write of a shared register with the local computation that follows it. -/

namespace Sys2Proof.Machine

/-- Call H.PRESS(b, n) for a caller (R177): `tries <- BUZZER_WAIT_TRIES`, next the first read of the buzzer. -/
def callPress (op : HostOp) (b : Button) (n : Count) (k : Caller) (s : State) : State :=
  goOn op (.pollQuiet b n s.cfg.buzzerWaitTries k) s

/-- The accessor H.GET.DESIRED_C as a command calls it (R205). -/
def readDesired (s : State) : Option Int := celsius s.cfg s.display.pubDesired

/-- The accessor H.GET.DURATION_H as a command calls it (R206). -/
def readDuration (s : State) : Option Int := hours s.cfg s.display.pubDuration

/-! ## H.SET_TEMP and H.SET_DISINF between two presses -/

/-- The button that moves the setpoint from `cur` toward `target` (R184). -/
def stepButton (target cur : Int) : Button := if target > cur then .tempUp else .tempDown

/-- The reading one step from `cur` toward `target` (R184). -/
def stepExpect (target cur : Int) : Int := if target > cur then cur + 1 else cur - 1

/-- The head of the loop of H.SET_TEMP with a readable current value (R184). -/
def tempLoop (target cur : Int) (presses : Nat) (s : State) : State :=
  if cur = target then finish true s
  else if presses = 0 then failTimeout s
  else
    callPress .setTemp (stepButton target cur) s.cfg.pressShortCount
      (.tempStep target (presses - 1) (stepExpect target cur)) s

/-- The head of the loop of H.SET_DISINF (R185). -/
def disinfLoop (target : Int) (cur : Option Int) (presses : Nat) (s : State) : State :=
  if cur = some target then finish true s
  else if presses = 0 then failTimeout s
  else callPress .setDisinf .disinf s.cfg.pressCount (.disinfStep target (presses - 1) cur) s

/-- Suspend before a read-back: `Wait(READBACK_POLL); tries <- tries - 1` (R184, R185; log 10). -/
def waitReadback (op : HostOp) (p : Nat → Point) (tries : Nat) (s : State) : State :=
  waitThen op s.cfg.readbackPoll (p (tries - 1)) s

/-- H.PRESS returns `ok` to its caller: a toggle hands it on (R178), a setpoint command ignores it and reads back
(R184, R185). -/
def pressReturn (op : HostOp) (ok : Bool) (k : Caller) (s : State) : State :=
  match k with
  | .direct => if ok then finish true s else failTimeout s
  | .probe target => waitReadback op (.readProbe target) s.cfg.readbackTries s
  | .tempStep target presses expect => waitReadback op (.readStep target presses expect) s.cfg.readbackTries s
  | .disinfStep target presses cur => waitReadback op (.readDisinf target presses cur) s.cfg.readbackTries s

/-! ## The toggles -/

/-- `toggle(req, cur, b)` after `cur` has been read (R178): false and UNDEF both count as off. -/
def toggle (op : HostOp) (req : Bool) (cur : Option Bool) (b : Button) (s : State) : State :=
  if req == (cur == some true) then finish true s else callPress op b s.cfg.pressCount .direct s

/-! ## One action of the foreground -/

/-- The action at a program point (R177, R182, R184, R185). -/
def act (op : HostOp) (p : Point) (s : State) : State :=
  match p with
  | .pollQuiet b n tries k =>
    if buzzerActive s && tries != 0 then waitThen op s.cfg.ackPoll (.pollQuiet b n (tries - 1) k) s
    else goOn op (.checkQuiet b n k) s
  | .checkQuiet b n k =>
    if buzzerActive s then pressReturn op false k s else waitThen op s.cfg.settle (.arm b n k) s
  | .arm b n k => goOn op (.pollAck b s.cfg.ackTries k) (setPress b n s)
  | .pollAck b tries k =>
    if s.press.get b != 0#8 && tries != 0 then waitThen op s.cfg.ackPoll (.pollAck b (tries - 1) k) s
    else goOn op (.readBuzzer b k) s
  | .readBuzzer b k => goOn op (.disarm b (buzzerActive s) k) s
  | .disarm b ok k => pressReturn op ok k (setPress b 0#8 s)
  | .readStandby req => toggle op req (readLamp .heaterStandby s) .heater s
  | .readProbe target tries =>
    match readDesired s with
    | some cur => tempLoop target cur s.cfg.maxPresses s
    | none => if tries = 0 then failTimeout s else waitReadback op (.readProbe target) tries s
  | .readStep target presses expect tries =>
    if readDesired s = some expect ∨ tries = 0 then
      match readDesired s with
      | some cur => tempLoop target cur presses s
      | none => failTimeout s
    else waitReadback op (.readStep target presses expect) tries s
  | .readDisinf target presses cur tries =>
    if (readDuration s ≠ none ∧ readDuration s ≠ cur) ∨ tries = 0 then disinfLoop target (readDuration s) presses s
    else waitReadback op (.readDisinf target presses cur) tries s

/-- FG takes its next action (R7): none when no command runs, or while it is in a Wait. -/
def fgAction (s : State) : State :=
  match s.fg.cmd with
  | .busy op (.ready p) => act op p s
  | .idle | .busy _ (.waiting _ _) => s

end Sys2Proof.Machine
end

