-- ==== Sys2Proof/Machine/Commands.lean ====
section
/-! DEFINITION. The host commands (spec/44_button.md R177 to R185): each starts on an idle foreground (R186) and runs its
first action; `fgAction` runs the rest. -/

namespace Sys2Proof.Machine

/-- H.PRESS b n (R177): only of a button that a host operation may press and with a count that FG may arm (R45). -/
def execHPress (b : Button) (n : Count) (s : State) : Result :=
  if !s.cfg.buttons.contains b then .refused (.buttonAbsent b)
  else if mayPress s.cfg b && armCount s.cfg n then
    startCommand s fun s => act .press (.pollQuiet b n s.cfg.buzzerWaitTries .direct) s
  else .refused (.pressNotMade b n)

/-- H.SET_POWER req (R179). -/
def execHSetPower (req : Bool) (s : State) : Result :=
  startCommand s fun s => toggle .setPower req (readLamp .power s) .power s

/-- H.SET_FILTER req (R180). -/
def execHSetFilter (req : Bool) (s : State) : Result :=
  startCommand s fun s => toggle .setFilter req (readLamp .filter s) .filter s

/-- H.SET_BUBBLE req (R181). -/
def execHSetBubble (req : Bool) (s : State) : Result :=
  startCommand s fun s => toggle .setBubble req (readLamp .bubble s) .bubble s

/-- H.SET_HEATER req (R182): on when either heater lamp is on; the second lamp is a read of its own. -/
def execHSetHeater (req : Bool) (s : State) : Result :=
  startCommand s fun s =>
    if readLamp .heaterOn s == some true then toggle .setHeater req (some true) .heater s
    else goOn .setHeater (.readStandby req) s

/-- H.SET_JET req (R183): `false` and no effect on `BASE7`. -/
def execHSetJet (req : Bool) (s : State) : Result :=
  startCommand s fun s =>
    match s.cfg.variant with
    | .base7 => finish false s
    | .ext9 => toggle .setJet req (readLamp .jet s) .jet s

/-- H.SET_TEMP t (R184): clamp, read the desired reading, probe when it is UNDEF. -/
def execHSetTemp (t : Int) (s : State) : Result :=
  startCommand s fun s =>
    match readDesired s with
    | none => callPress .setTemp .tempDown s.cfg.pressShortCount (.probe (clampTarget s.cfg t)) s
    | some cur => tempLoop (clampTarget s.cfg t) cur s.cfg.maxPresses s

/-- H.SET_DISINF h (R185): `false` and no effect on `BASE7`. -/
def execHSetDisinf (h : Int) (s : State) : Result :=
  startCommand s fun s =>
    match s.cfg.variant with
    | .base7 => finish false s
    | .ext9 => disinfLoop (snap s.cfg h) (readDuration s) s.cfg.disinfMaxPresses s

end Sys2Proof.Machine
end

