-- ==== Sys2Proof/Machine/Liveness.lean ====
section
/-! DEFINITION. The liveness check (spec/45_status.md R210): operation H.LIVENESS. -/

namespace Sys2Proof.Machine

/-- The liveness timeout in milliseconds (R210, R222). -/
def onlineTimeout (c : Cfg) : Nat := c.onlineTimeoutMult * c.cyclePeriodMs

/-- The pseudocode of R210, as one step (R69, D27; log 7). -/
def liveness (s : State) : State :=
  if s.stateUpdated then
    { s with stateUpdated := false, fg.lastUpdateMs := s.world.nowMs, fg.online := true }
  else if onlineTimeout s.cfg < (s.world.nowMs - s.fg.lastUpdateMs).toNat then raise .linkOffline s
  else s

/-- H.LIVENESS (R210): only while no command runs. -/
def execHLiveness (s : State) : Result := startCommand s fun s => answer .unit (liveness s)

end Sys2Proof.Machine
end

