-- ==== Sys2Proof/Machine/Readings.lean ====
section
/-! DEFINITION. The read accessors H.GET.* (spec/45_status.md R200 to R207): each is one read of one published register and
a pure function; only the model's own `result` changes. A sentinel result records nothing (UndefinedValue, R221). -/

namespace Sys2Proof.Machine

/-- H.GET.ONLINE (R201). -/
def execHGetOnline (s : State) : Result := .next (answer (.bool s.fg.online) s)

/-- H.GET.FRAMES_TOTAL (R202). -/
def execHGetFramesTotal (s : State) : Result := .next (answer (.counter s.sampler.frameTotal) s)

/-- H.GET.FRAMES_DROPPED (R202). -/
def execHGetFramesDropped (s : State) : Result := .next (answer (.counter s.sampler.frameDropped) s)

/-- H.GET.POWER (R203). -/
def execHGetPower (s : State) : Result := .next (answer (.tri (readLamp .power s)) s)

/-- H.GET.FILTER (R203). -/
def execHGetFilter (s : State) : Result := .next (answer (.tri (readLamp .filter s)) s)

/-- H.GET.BUBBLE (R203). -/
def execHGetBubble (s : State) : Result := .next (answer (.tri (readLamp .bubble s)) s)

/-- H.GET.HEATER_ON (R203). -/
def execHGetHeaterOn (s : State) : Result := .next (answer (.tri (readLamp .heaterOn s)) s)

/-- H.GET.HEATER_STANDBY (R203). -/
def execHGetHeaterStandby (s : State) : Result := .next (answer (.tri (readLamp .heaterStandby s)) s)

/-- H.GET.BUZZER (R203). -/
def execHGetBuzzer (s : State) : Result := .next (answer (.tri (readBuzzer s)) s)

/-- H.GET.JET (R203). -/
def execHGetJet (s : State) : Result := .next (answer (.tri (readLamp .jet s)) s)

/-- H.GET.DISINF (R203). -/
def execHGetDisinf (s : State) : Result := .next (answer (.tri (readLamp .disinf s)) s)

/-- H.GET.LED_RAW (R203). -/
def execHGetLedRaw (s : State) : Result := .next (answer (.mask s.led.pubLed) s)

/-- H.GET.ACTUAL_C (R204). -/
def execHGetActualC (s : State) : Result := .next (answer (.reading (celsius s.cfg s.display.pubActual)) s)

/-- H.GET.DESIRED_C (R205). -/
def execHGetDesiredC (s : State) : Result := .next (answer (.reading (readDesired s)) s)

/-- H.GET.DURATION_H (R206). -/
def execHGetDurationH (s : State) : Result := .next (answer (.reading (readDuration s)) s)

/-- H.GET.ERROR (R207). -/
def execHGetError (s : State) : Result := .next (answer (.error s.display.errCode) s)

end Sys2Proof.Machine
end

