-- ==== Sys2Proof/Machine/Button.lean ====
section
/-! DEFINITION. The interrupt side of the Button Command State Machine (spec/44_button.md section 1): operations
F.BTN.<b> and F.BTN.NONE. -/

namespace Sys2Proof.Machine

/-- An echo of button b (R171): a non-zero counter is decremented and a reply is scheduled; else nothing. -/
def buttonEcho (b : Button) (s : State) : State :=
  if s.press.get b == 0#8 then s else startReply b (setPress b (s.press.get b - 1#8) s)

/-- F.BTN.POWER (R171). -/
def execFBtnPower (_f : Frame) (s : State) : Result := .next (buttonEcho .power s)

/-- F.BTN.FILTER (R171). -/
def execFBtnFilter (_f : Frame) (s : State) : Result := .next (buttonEcho .filter s)

/-- F.BTN.HEATER (R171). -/
def execFBtnHeater (_f : Frame) (s : State) : Result := .next (buttonEcho .heater s)

/-- F.BTN.BUBBLE (R171). -/
def execFBtnBubble (_f : Frame) (s : State) : Result := .next (buttonEcho .bubble s)

/-- F.BTN.TEMP_UP (R171). -/
def execFBtnTempUp (_f : Frame) (s : State) : Result := .next (buttonEcho .tempUp s)

/-- F.BTN.TEMP_DOWN (R171). -/
def execFBtnTempDown (_f : Frame) (s : State) : Result := .next (buttonEcho .tempDown s)

/-- F.BTN.TEMP_UNIT (R171). -/
def execFBtnTempUnit (_f : Frame) (s : State) : Result := .next (buttonEcho .tempUnit s)

/-- F.BTN.JET (R171, `EXT9`). -/
def execFBtnJet (_f : Frame) (s : State) : Result := .next (buttonEcho .jet s)

/-- F.BTN.DISINF (R171, `EXT9`). -/
def execFBtnDisinf (_f : Frame) (s : State) : Result := .next (buttonEcho .disinf s)

/-- F.BTN.NONE (R172): nothing. -/
def execFBtnNone (_f : Frame) (s : State) : Result := .next s

end Sys2Proof.Machine
end

