-- ==== Sys2Proof/Machine/Display.lean ====
section
/-! DEFINITION. The Display Decoder (spec/42_display.md): operations F.DIGIT.P1 to F.DIGIT.P4. The functions below read
the configuration and the frame counter `fc` and change display registers only (R151). -/

namespace Sys2Proof.Machine

/-- The desired reading is published at a blank acceptance under these five conditions (R139). -/
def desiredReady (c : Cfg) (count : Count) (d : Display) : Bool :=
  decide (c.blinkMinCycles ≤ count.toNat) && d.blinkPending.isSome && decide (c.blinkTempFrames ≤ d.blinkStab.toNat)
    && d.errCode.isNone && d.blinkPending != d.pubDesired

/-- `blank_accepted()` (R139). -/
def blankAccepted (c : Cfg) (d : Display) : Display :=
  let d1 :=
    if d.blinking then
      let count := satSucc d.blinkCount
      { d with
        blinkCount := count
        pubDesired := if desiredReady c count d then d.blinkPending else d.pubDesired }
    else { d with blinking := true, blinkCount := 0#8 }
  { d1 with blinkPending := none, blinkStab := 0#8 }

/-- `confirmed_blank()` (R138). -/
def confirmedBlank (c : Cfg) (fc : Nat) (d : Display) : Display :=
  let cnt := if d.blankCnt == 0#8 then 0#8 else d.blankCnt - 1#8
  let accepted := d.blankCnt != 0#8 && cnt == 0#8
  let d1 := { d with blankCnt := cnt, lastBlankFc := if cnt == 0#8 then fc else d.lastBlankFc }
  if accepted then blankAccepted c d1 else d1

/-- `end_blink_episode()` (R141). -/
def endBlinkEpisode (d : Display) : Display :=
  { d with blinking := false, blinkPending := none, blinkStab := 0#8 }

/-- `latch_error(v)` (R143). -/
def latchError (v : Composite) (d : Display) : Display := d.record (errorCodeOf v)

/-- `temp_blinking(v, age)` (R144). -/
def tempBlinking (c : Cfg) (v : Composite) (age : Nat) (d : Display) : Display :=
  if d.blinkPending == some v then { d with blinkStab := satSucc d.blinkStab }
  else if age ≤ c.blinkUpdateWindow then { d with blinkPending := some v, blinkStab := 0#8 }
  else d

/-- `temp_steady(v)` (R145). -/
def tempSteady (c : Cfg) (v : Composite) (d : Display) : Display :=
  if d.actualCand == some v then
    if d.actualCnt - 1#8 == 0#8 then { d with pubActual := some v, actualCnt := c.confirmActual }
    else { d with actualCnt := d.actualCnt - 1#8 }
  else { d with actualCand := some v, actualCnt := c.confirmActual }

/-- `publish_duration(v)` (R146). -/
def publishDuration (v : Composite) (d : Display) : Display := { d with pubDuration := some v }

/-- The kinds of a confirmed non-blank composite, after the episode-end test (R140, R147). -/
def handleValue (c : Cfg) (v : Composite) (age : Nat) (d : Display) : Display :=
  if isError c v then latchError v d
  else if isTemp c v then
    if d.blinking then tempBlinking c v age d else tempSteady c v d
  else if isDuration c v then publishDuration v d
  else d

/-- `confirmed_value(v)` (R140): the episode-end test first, with the same age. -/
def confirmedValue (c : Cfg) (fc : Nat) (v : Composite) (d : Display) : Display :=
  let age := fcAge c fc d.lastBlankFc
  handleValue c v age (if d.blinking && decide (c.blinkStoppedFrames < age) then endBlinkEpisode d else d)

/-- `confirmed(v)` (R136). -/
def confirmed (c : Cfg) (fc : Nat) (v : Composite) (d : Display) : Display :=
  if isBlank v then confirmedBlank c fc d else confirmedValue c fc v d

/-- `composite(v)` (R134, R135). -/
def processComposite (c : Cfg) (fc : Nat) (v : Composite) (d : Display) : Display :=
  if d.latest == some v then
    if d.stableCnt - 1#8 == 0#8 then confirmed c fc v { d with stableCnt := c.confirmDisp }
    else { d with stableCnt := d.stableCnt - 1#8 }
  else { d with latest := some v, stableCnt := c.confirmDisp, blankCnt := c.confirmBlank }

/-- An accepted character (R133): stored, the next position awaited; position 4 completes the composite. -/
def acceptChar (c : Cfg) (fc : Nat) (k : Pos) (ch : Glyph) (d : Display) : Display :=
  let d1 := { d with comp := setChar d.comp k ch, dpos := nextAwait k }
  match k with
  | .p1 | .p2 | .p3 => d1
  | .p4 => processComposite c fc d1.comp d1

/-- `F.DIGIT(f)` for a frame of position k (R130): unknown pattern (R131), position not awaited (R132), accepted (R133). -/
def digitFrame (c : Cfg) (fc : Nat) (k : Pos) (f : Frame) (d : Display) : Display :=
  match frameGlyph c f with
  | none => d
  | some ch => if d.dpos == awaits k then acceptChar c fc k ch d else d

/-- The state after a DIGIT frame of position k. -/
def digitState (k : Pos) (f : Frame) (s : State) : State :=
  { s with display := digitFrame s.cfg s.sampler.frameTotal k f s.display }

/-- F.DIGIT.P1 (R130). -/
def execFDigitP1 (f : Frame) (s : State) : Result := .next (digitState .p1 f s)

/-- F.DIGIT.P2 (R130). -/
def execFDigitP2 (f : Frame) (s : State) : Result := .next (digitState .p2 f s)

/-- F.DIGIT.P3 (R130). -/
def execFDigitP3 (f : Frame) (s : State) : Result := .next (digitState .p3 f s)

/-- F.DIGIT.P4 (R130). -/
def execFDigitP4 (f : Frame) (s : State) : Result := .next (digitState .p4 f s)

end Sys2Proof.Machine
end

