-- ==== Sys2Proof/Machine/Led.lean ====
section
/-! DEFINITION. The LED/Status Decoder (spec/43_led.md): operation F.LED. -/

namespace Sys2Proof.Machine

/-- The publish of a confirmed lamp value (R161): the pulse is set, and an active buzzer zeroes every press counter. -/
def publishLed (f : Frame) (s : State) : State :=
  { s with
    led := { s.led with cnt := s.cfg.confirmLed, pubLed := some f }
    stateUpdated := true
    press := if buzzerOf s.cfg f then PressFile.zero else s.press }

/-- `led_repeat(f)` (R161). -/
def ledRepeat (f : Frame) (s : State) : State :=
  if s.led.cnt - 1#8 == 0#8 then publishLed f s else { s with led.cnt := s.led.cnt - 1#8 }

/-- `led_change(f)` (R162). -/
def ledChange (f : Frame) (s : State) : State :=
  { s with led := { s.led with latest := some f, cnt := s.cfg.confirmLed } }

/-- F.LED (R160): the whole frame value is compared. -/
def execFLed (f : Frame) (s : State) : Result :=
  .next (if s.led.latest == some f then ledRepeat f s else ledChange f s)

end Sys2Proof.Machine
end

