-- ==== Sys2Proof/Machine/Classifier.lean ====
section
/-! DEFINITION. The Frame Classifier (spec/41_classifier.md): operations F.CUE, F.ZERO, F.UNKNOWN, and the routing of a
completed frame to its operation. -/

namespace Sys2Proof.Machine

/-- F.CUE (R121): discarded. -/
def execFCue (s : State) : Result := .next s

/-- F.ZERO (R122): discarded. -/
def execFZero (s : State) : Result := .next s

/-- F.UNKNOWN (R123): discarded, not counted as dropped. -/
def execFUnknown (_f : Frame) (s : State) : Result := .next s

/-- `dispatch(f)` (R120, R125): the one operation the frame selects runs to its end. -/
def dispatch (f : Frame) (s : State) : Result :=
  match selectFrame s.cfg f with
  | .cue => execFCue s
  | .digit .p1 => execFDigitP1 f s
  | .digit .p2 => execFDigitP2 f s
  | .digit .p3 => execFDigitP3 f s
  | .digit .p4 => execFDigitP4 f s
  | .led => execFLed f s
  | .button .power => execFBtnPower f s
  | .button .filter => execFBtnFilter f s
  | .button .heater => execFBtnHeater f s
  | .button .bubble => execFBtnBubble f s
  | .button .tempUp => execFBtnTempUp f s
  | .button .tempDown => execFBtnTempDown f s
  | .button .tempUnit => execFBtnTempUnit f s
  | .button .jet => execFBtnJet f s
  | .button .disinf => execFBtnDisinf f s
  | .buttonNone => execFBtnNone f s
  | .zero => execFZero s
  | .unknown => execFUnknown f s

end Sys2Proof.Machine
end

