-- ==== Sys2Proof/Machine/Sampler.lean ====
section
/-! DEFINITION. The Bus Sampler (spec/40_sampler.md): operations S.SHIFT, S.COMPLETE, S.DROP, S.IDLE. -/

namespace Sys2Proof.Machine

/-- S.SHIFT (R111): the new bit enters at bit 0, the former bit 15 is lost. -/
def execSShift (bit : Bool) (s : State) : Result :=
  .next { s with
    sampler.sr := (s.sampler.sr <<< 1) ||| (BitVec.ofBool bit).setWidth 16
    sampler.nbits := s.sampler.nbits + 1#5 }

/-- The frame boundary: `nbits <- 0` (R112, R113). -/
def frameBoundary (s : State) : State := { s with sampler.nbits := 0#5 }

/-- S.COMPLETE (R112): count first, then dispatch the frame value, then the boundary. -/
def execSComplete (s : State) : Result :=
  andThen (dispatch s.sampler.sr (countTotal s)) fun t => .next (frameBoundary t)

/-- S.DROP (R113): the partial frame is discarded and counted (FramingAnomaly, R225). -/
def execSDrop (s : State) : Result := .next (raise .framingAnomaly (frameBoundary s))

/-- S.IDLE (R114): nothing. -/
def execSIdle (s : State) : Result := .next s

end Sys2Proof.Machine
end

