-- ==== Sys2Proof/Machine/Dispatch.lean ====
section
/-! DEFINITION. The meaning of every operation: one arm per constructor of `Instr` (R8). -/

namespace Sys2Proof.Machine

/-- The effect of an operation. -/
def exec (i : Instr) (s : State) : Host.Outcome State Fault Refusal :=
  match i with
  | .sShift bit => Sys2Proof.Machine.execSShift bit s
  | .sComplete => Sys2Proof.Machine.execSComplete s
  | .sDrop => Sys2Proof.Machine.execSDrop s
  | .sIdle => Sys2Proof.Machine.execSIdle s
  | .fCue => Sys2Proof.Machine.execFCue s
  | .fDigitP1 f => Sys2Proof.Machine.execFDigitP1 f s
  | .fDigitP2 f => Sys2Proof.Machine.execFDigitP2 f s
  | .fDigitP3 f => Sys2Proof.Machine.execFDigitP3 f s
  | .fDigitP4 f => Sys2Proof.Machine.execFDigitP4 f s
  | .fLed f => Sys2Proof.Machine.execFLed f s
  | .fBtnPower f => Sys2Proof.Machine.execFBtnPower f s
  | .fBtnFilter f => Sys2Proof.Machine.execFBtnFilter f s
  | .fBtnHeater f => Sys2Proof.Machine.execFBtnHeater f s
  | .fBtnBubble f => Sys2Proof.Machine.execFBtnBubble f s
  | .fBtnTempUp f => Sys2Proof.Machine.execFBtnTempUp f s
  | .fBtnTempDown f => Sys2Proof.Machine.execFBtnTempDown f s
  | .fBtnTempUnit f => Sys2Proof.Machine.execFBtnTempUnit f s
  | .fBtnJet f => Sys2Proof.Machine.execFBtnJet f s
  | .fBtnDisinf f => Sys2Proof.Machine.execFBtnDisinf f s
  | .fBtnNone f => Sys2Proof.Machine.execFBtnNone f s
  | .fZero => Sys2Proof.Machine.execFZero s
  | .fUnknown f => Sys2Proof.Machine.execFUnknown f s
  | .hPress b n => Sys2Proof.Machine.execHPress b n s
  | .hSetPower req => Sys2Proof.Machine.execHSetPower req s
  | .hSetFilter req => Sys2Proof.Machine.execHSetFilter req s
  | .hSetBubble req => Sys2Proof.Machine.execHSetBubble req s
  | .hSetHeater req => Sys2Proof.Machine.execHSetHeater req s
  | .hSetJet req => Sys2Proof.Machine.execHSetJet req s
  | .hSetTemp t => Sys2Proof.Machine.execHSetTemp t s
  | .hSetDisinf h => Sys2Proof.Machine.execHSetDisinf h s
  | .hLiveness => Sys2Proof.Machine.execHLiveness s
  | .hGetOnline => Sys2Proof.Machine.execHGetOnline s
  | .hGetFramesTotal => Sys2Proof.Machine.execHGetFramesTotal s
  | .hGetFramesDropped => Sys2Proof.Machine.execHGetFramesDropped s
  | .hGetPower => Sys2Proof.Machine.execHGetPower s
  | .hGetFilter => Sys2Proof.Machine.execHGetFilter s
  | .hGetBubble => Sys2Proof.Machine.execHGetBubble s
  | .hGetHeaterOn => Sys2Proof.Machine.execHGetHeaterOn s
  | .hGetHeaterStandby => Sys2Proof.Machine.execHGetHeaterStandby s
  | .hGetBuzzer => Sys2Proof.Machine.execHGetBuzzer s
  | .hGetJet => Sys2Proof.Machine.execHGetJet s
  | .hGetDisinf => Sys2Proof.Machine.execHGetDisinf s
  | .hGetLedRaw => Sys2Proof.Machine.execHGetLedRaw s
  | .hGetActualC => Sys2Proof.Machine.execHGetActualC s
  | .hGetDesiredC => Sys2Proof.Machine.execHGetDesiredC s
  | .hGetDurationH => Sys2Proof.Machine.execHGetDurationH s
  | .hGetError => Sys2Proof.Machine.execHGetError s

end Sys2Proof.Machine
end

