-- ==== Sys2Proof/Machine/Events.lean ====
section
/-! DEFINITION. What one input of the environment does: the clock edge (spec/40_sampler.md R110, spec/60_exceptions.md R228),
the foreground's next action, a host call, and the moves of the reply-pulse generator. -/

namespace Sys2Proof.Machine

/-- A rising clock edge (R110, R228 b): forced release of RPG, sampling of both lines, then the operation that the
logical enable and `nbits` select, and S.COMPLETE in the same step when a shift has made `nbits` 16. -/
def clockEdge (d l : Level) (s : State) : Result :=
  let s0 := edgeStart l s
  andThen (exec (decodeEdge (sampleEnable l) (sampleBit d s) s0.sampler.nbits) s0) fun s1 =>
    if s1.sampler.nbits == 16#5 then exec .sComplete s1 else .next s1

/-- HOST starts an operation by its name (R62, R97); a name or argument that selects none is refused (R73). -/
def hostCall (c : HostCall) (s : State) : Result :=
  match decodeCall c with
  | .ok i => exec i s
  | .error e => .refused (.badCall e)

/-- The effect of one input. -/
def runEvent (e : Event) (s : State) : Result :=
  match e with
  | .clk d l => clockEdge d l s
  | .fg => .next (fgAction s)
  | .tick => .next (tick s)
  | .now t => .next { s with world.nowMs := t }
  | .host c => hostCall c s
  | .latch l => .next (latchMoves l s)
  | .replyStart => .next (replyStart s)
  | .replyEnd => .next (replyEnd s)

/-- Take the next input and run it; without an input nothing moves (log 3). -/
def takeInput (s : State) : Result :=
  match s.world.inputs with
  | [] => .next s
  | e :: rest => runEvent e { s with world.inputs := rest }

/-- The state in which the next step completes the frame `f`: fifteen of its bits shifted in, the last one on the
line at an enabled edge, RPG idle so that the line's level is what the edge samples (log 2). -/
def placeFrame (f : Frame) (s : State) : State :=
  { s with
    sampler.sr := f >>> 1
    sampler.nbits := 15#5
    reply.rpg := .idle
    reply.dataPin := .input
    world.inputs := .clk (if f.getLsbD 0 then .low else .high) .low :: s.world.inputs }

end Sys2Proof.Machine
end

