-- ==== Sys2Proof/Machine/Step.lean ====
section
/-! DEFINITION. One step of the machine (spec/20_memory.md R71: a single sequence of atomic steps). -/

namespace Sys2Proof.Machine

/-- One step: the next input of the environment takes its effect. -/
def step (s : State) : Host.Outcome State Fault Refusal := takeInput s

/-- `s` with the frame `w` placed so that the next step completes it and runs the operation it selects (log 2).
A frame has one length (R80), so `nbits` plays no part beyond saying that `w` is one frame. -/
def State.withFetchWord (s : State) (_nbits w : Nat) : State := placeFrame (BitVec.ofNat 16 w) s

end Sys2Proof.Machine
end

