-- ==== Sys2Proof/Machine/Stimulus.lean ====
section
/-! DEFINITION. The stimulus notation of spec/30_encoding.md R97 and R98 as lists of inputs. -/

namespace Sys2Proof.Machine

/-- The data level that carries a logical bit (R64, R98): 1 is electrically low. -/
def levelOf (b : Bool) : Level := if b then .low else .high

/-- `FRAME v` (R98): sixteen enabled edges, bit 15 first. -/
def frameEvents (v : Frame) : List Event := (bitsOfFrame v).map fun b => .clk (levelOf b) .low

/-- `GAP n` (R98): n edges with the frame disabled. -/
def gapEvents (n : Nat) : List Event := List.replicate n (.clk .high .high)

/-- `PARTIAL v n` (R98): the first n edges of the frame, then a disabled edge. -/
def partialEvents (v : Frame) (n : Nat) : List Event := (frameEvents v).take n ++ gapEvents 1

/-- `DIGIT k ch` (R98); nothing for a character that the configuration's table lacks. -/
def digitEvents (c : Cfg) (k : Pos) (ch : Glyph) : List Event :=
  match glyphSegs c ch with
  | some g => frameEvents (c.pos k ||| segmask c g)
  | none => []

/-- `DISPLAY "wxyz"` (R98). -/
def displayEvents (c : Cfg) (v : Composite) : List Event :=
  digitEvents c .p1 v.c1 ++ digitEvents c .p2 v.c2 ++ digitEvents c .p3 v.c3 ++ digitEvents c .p4 v.c4

/-- `LED L` (R98). -/
def ledEvents (l : Frame) : List Event := frameEvents l

/-- `BTN b` (R98); nothing for a button that the variant lacks. -/
def btnEvents (c : Cfg) (b : Button) : List Event :=
  match c.btn b with
  | some m => frameEvents (c.cue ||| m)
  | none => []

/-- `CUE` (R98). -/
def cueEvents (c : Cfg) : List Event := frameEvents c.cue

/-- `op*n` (R98): n times the same line. -/
def timesEvents (n : Nat) (es : List Event) : List Event := (List.replicate n es).flatten

/-- The state with these inputs before those it already has. -/
def feed (es : List Event) (s : State) : State := { s with world.inputs := es ++ s.world.inputs }

end Sys2Proof.Machine
end

