-- ==== Sys2Proof/Safety.lean ====
section
/-! DEFINITION. The terms of the claims: the legal states of a decoder with an accepted configuration (the ranges of
spec/10_state.md and the ownership rules), and the work a running command has left (spec/44_button.md R186). -/

namespace Sys2Proof.Machine

/-- The operation completes: it answers a next state. -/
def Completes (o : Result) : Prop := ∃ t, o = .next t

/-- `n` steps, stopping at the first refusal. -/
def runSteps : Nat → State → Result
  | 0, s => .next s
  | n + 1, s => andThen (step s) (runSteps n)

/-! ## Legal register values -/

/-- R22, R42: `nbits` is 0 to 15 between steps, the counters fit in `W_FC` bits. -/
def Sampler.Legal (c : Cfg) (r : Sampler) : Prop :=
  r.nbits.toNat ≤ 15 ∧ r.frameTotal < 2 ^ c.wFc ∧ r.frameDropped < 2 ^ c.wFc

/-- R27, R28, R29, R34: the ranges of the debounce counters between steps. -/
def Display.CountersLegal (c : Cfg) (d : Display) : Prop :=
  (0#8 < d.stableCnt ∧ d.stableCnt ≤ c.confirmDisp) ∧ d.blankCnt ≤ c.confirmBlank
    ∧ (0#8 < d.actualCnt ∧ d.actualCnt ≤ c.confirmActual) ∧ d.lastBlankFc < 2 ^ c.wFc

/-- R139, R141, R144: outside a blink episode there is no candidate, and without a candidate no stability. -/
def Display.BlinkLegal (d : Display) : Prop :=
  (d.blinking = false → d.blinkPending = none) ∧ (d.blinkPending = none → d.blinkStab = 0#8)

/-- R40, R139, R144 to R146: what is published or a candidate is of its kind. -/
def Display.KindsLegal (c : Cfg) (d : Display) : Prop :=
  (∀ v, d.pubActual = some v → isTemp c v = true) ∧ (∀ v, d.pubDesired = some v → isTemp c v = true)
    ∧ (∀ v, d.blinkPending = some v → isTemp c v = true) ∧ (∀ v, d.actualCand = some v → isTemp c v = true)
    ∧ (∀ v, d.pubDuration = some v → isDuration c v = true)

/-- R35: the range of `led_cnt` between steps; R41, R86: a published lamp value is an LED frame. -/
def Led.Legal (c : Cfg) (r : Led) : Prop :=
  (0#8 < r.cnt ∧ r.cnt ≤ c.confirmLed) ∧ (∀ l, r.latest = some l → hits l c.ledMark = true)
    ∧ (∀ l, r.pubLed = some l → hits l c.ledMark = true)

/-- R37, R38: the pulse and the online flag need a published lamp value. -/
def State.PulseLegal (s : State) : Prop :=
  (s.stateUpdated = true → s.led.pubLed ≠ none) ∧ (s.fg.online = true → s.led.pubLed ≠ none)

/-- R45, R10: no counter is above the longest press, and the counters of TEMP_UNIT and of the buttons that the variant
lacks are 0. -/
def PressFile.Legal (c : Cfg) (p : PressFile) : Prop :=
  ∀ b, p.get b ≤ c.pressCount ∧ (mayPress c b = false → p.get b = 0#8)

/-- R46, R251: the data pin is driven low exactly while RPG drives. -/
def ReplyGen.Legal (r : ReplyGen) : Prop := r.dataPin = .drivenLow ↔ r.rpg = .drive

/-- The caller of a press is one the variant has (R185). -/
def Caller.Legal (c : Cfg) : Caller → Prop
  | .direct => True
  | .probe _ => True
  | .tempStep _ _ _ => True
  | .disinfStep _ _ _ => c.variant = .ext9

/-- A program point presses only a button that a host operation may press, with a count that FG may arm (R45, R177). -/
def Point.Legal (c : Cfg) : Point → Prop
  | .pollQuiet b n _ k => mayPress c b = true ∧ armCount c n = true ∧ k.Legal c
  | .checkQuiet b n k => mayPress c b = true ∧ armCount c n = true ∧ k.Legal c
  | .arm b n k => mayPress c b = true ∧ armCount c n = true ∧ k.Legal c
  | .pollAck b _ k => mayPress c b = true ∧ k.Legal c
  | .readBuzzer b k => mayPress c b = true ∧ k.Legal c
  | .disarm b _ k => mayPress c b = true ∧ k.Legal c
  | .readStandby _ => True
  | .readProbe _ _ => True
  | .readStep _ _ _ _ => True
  | .readDisinf _ _ _ _ => c.variant = .ext9

/-- The running command is one the variant has (R43, R177). -/
def Cmd.Legal (c : Cfg) : Cmd → Prop
  | .idle => True
  | .busy _ (.ready p) => p.Legal c
  | .busy _ (.waiting _ p) => p.Legal c

/-- The legal states of an instance with an accepted configuration. -/
structure State.Legal (s : State) : Prop where
  cfg : s.cfg.accepted = true
  sampler : s.sampler.Legal s.cfg
  counters : s.display.CountersLegal s.cfg
  blink : s.display.BlinkLegal
  kinds : s.display.KindsLegal s.cfg
  led : s.led.Legal s.cfg
  pulse : s.PulseLegal
  press : s.press.Legal s.cfg
  reply : s.reply.Legal
  cmd : s.fg.cmd.Legal s.cfg

/-! ## The work left of a running command (R186)

An upper bound for the number of foreground actions and wait ticks until a running command returns, whatever BUS
does. -/

/-- Actions and ticks of the read-backs that follow `tries` more polls (R184, R185). -/
def readbackWork (c : Cfg) (tries : Nat) : Nat := 1 + tries * (c.readbackPoll + 2)

/-- Actions and ticks from the call of H.PRESS with `tries` polls for a quiet buzzer left, to its return (R177). -/
def pressWork (c : Cfg) (tries : Nat) : Nat :=
  tries * (c.ackPoll + 2) + c.settle + c.ackTries * (c.ackPoll + 2) + 7

/-- Actions and ticks of one press and its read-back (R184, R185). -/
def cycleWork (c : Cfg) : Nat :=
  pressWork c c.buzzerWaitTries + (c.readbackPoll + 1) + readbackWork c (c.readbackTries - 1)

/-- The work left when H.PRESS returns to its caller. -/
def Caller.work (c : Cfg) : Caller → Nat
  | .direct => 0
  | .probe _ => (c.readbackPoll + 1) + readbackWork c (c.readbackTries - 1) + c.maxPresses * cycleWork c
  | .tempStep _ presses _ => (c.readbackPoll + 1) + readbackWork c (c.readbackTries - 1) + presses * cycleWork c
  | .disinfStep _ presses _ => (c.readbackPoll + 1) + readbackWork c (c.readbackTries - 1) + presses * cycleWork c

/-- The work left at a program point. -/
def Point.work (c : Cfg) : Point → Nat
  | .pollQuiet _ _ tries k => pressWork c tries + k.work c
  | .checkQuiet _ _ k => c.settle + c.ackTries * (c.ackPoll + 2) + 6 + k.work c
  | .arm _ _ k => c.ackTries * (c.ackPoll + 2) + 4 + k.work c
  | .pollAck _ tries k => tries * (c.ackPoll + 2) + 3 + k.work c
  | .readBuzzer _ k => 2 + k.work c
  | .disarm _ _ k => 1 + k.work c
  | .readStandby _ => 1 + pressWork c c.buzzerWaitTries
  | .readProbe _ tries => readbackWork c tries + c.maxPresses * cycleWork c
  | .readStep _ presses _ tries => readbackWork c tries + presses * cycleWork c
  | .readDisinf _ presses _ tries => readbackWork c tries + presses * cycleWork c

/-- The work left of the foreground. -/
def Cmd.work (c : Cfg) : Cmd → Nat
  | .idle => 0
  | .busy _ (.ready p) => p.work c
  | .busy _ (.waiting ticks p) => ticks + 1 + p.work c

end Sys2Proof.Machine
end

