-- ==== Sys2Proof/Certificates/Slice0/Obligations.lean ====
section
/-! DEFINITION. The statements for the provers, one per entry of OBLIGATIONS.json. A statement marked "stated" there
follows a numbered rule of spec/; one that rests on a decision or an inference of the spec (spec/92_eei_decisions.md)
or on a choice of the model says so. -/

namespace Sys2Proof.Claims

open Sys2Proof Sys2Proof.Machine

/-- The lamp with this bit is on: a lamp value is published and has the bit (R92, R203). -/
def LampOn (s : State) (m : Mask) : Prop := ∃ l, s.led.pubLed = some l ∧ (l &&& m) ≠ 0#16

/-- The buzzer is active: a lamp value is published and lacks the no-beep bit (R163). -/
def BuzzerOn (s : State) : Prop := ∃ l, s.led.pubLed = some l ∧ (l &&& s.cfg.lampNoBeep) = 0#16

/-- The frame `f` is accepted at position 4 and completes the composite `v` (R133): its segment bits alone, the decimal
point and every other bit masked away (R85, R89; decision D7), show the fourth character. -/
def CompletesComposite (s : State) (f : Frame) (v : Composite) : Prop :=
  s.display.dpos = .aw4 ∧ ∃ ch, decodeGlyph s.cfg (f &&& s.cfg.segments) = some ch ∧
    v = { s.display.comp with c4 := ch }

/-- The frame `f` completes the composite `v` and confirms it: it equals the reference and the stable counter
reaches zero (R134). -/
def Confirms (s : State) (f : Frame) (v : Composite) : Prop :=
  CompletesComposite s f v ∧ s.display.latest = some v ∧ s.display.stableCnt = 1#8

/-- The display registers in which a confirmed composite is handled (R133, R134). -/
def onConfirm (s : State) (v : Composite) : Display :=
  { s.display with comp := v, dpos := .aw1, stableCnt := s.cfg.confirmDisp }

/-- The age of the last blank, `(frame_total - last_blank_fc) mod 2^W_FC` (R140), for counters that fit their width. -/
def age (s : State) : Nat :=
  (s.sampler.frameTotal + 2 ^ s.cfg.wFc - s.display.lastBlankFc) % 2 ^ s.cfg.wFc

/-- The counters fit their width (R42, R29). -/
def CountersFit (s : State) : Prop :=
  s.sampler.frameTotal < 2 ^ s.cfg.wFc ∧ s.display.lastBlankFc < 2 ^ s.cfg.wFc

/-- A confirmed non-blank composite ends the running blink episode (R141). -/
def EndsEpisode (s : State) : Prop :=
  s.display.blinking = true ∧ s.cfg.blinkStoppedFrames < age s

/-- The state with the total advanced, as a completed frame's operation finds it (R112; decision D31). -/
def afterCount (s : State) : State :=
  { s with sampler.frameTotal := (s.sampler.frameTotal + 1) % 2 ^ s.cfg.wFc }

/-- The composite shows a temperature (R91): no error marker first, a unit of either scale last. -/
def ShowsTemperature (c : Cfg) (v : Composite) : Prop :=
  v.c1 ≠ c.errorMarker ∧ (v.c4 = c.unitC ∨ v.c4 = c.unitF)

/-- The display registers `d` that the episode-end test leaves for a confirmed value `v`: those of the confirmation, or
the blink registers cleared when `v` ends the episode (R140, R141; decision D14). -/
def AfterEpisodeTest (s : State) (v : Composite) (d : Display) : Prop :=
  (¬ EndsEpisode s ∧ d = onConfirm s v) ∨
  (EndsEpisode s ∧ d = { onConfirm s v with blinking := false, blinkPending := none, blinkStab := 0#8 })

/-- The digit characters and their values (R14). -/
def digitValues : List (Glyph × Int) :=
  [(.d0, 0), (.d1, 1), (.d2, 2), (.d3, 3), (.d4, 4), (.d5, 5), (.d6, 6), (.d7, 7), (.d8, 8), (.d9, 9)]

/-- The first three characters of `v` show the number `n`: one, two or three digits after leading blanks (R148). -/
def ShowsNumber (v : Composite) (n : Int) : Prop :=
  (v.c1 = .blank ∧ v.c2 = .blank ∧ (v.c3, n) ∈ digitValues) ∨
  (v.c1 = .blank ∧ ∃ j k, (v.c2, j) ∈ digitValues ∧ (v.c3, k) ∈ digitValues ∧ n = 10 * j + k) ∨
  (∃ i j k, (v.c1, i) ∈ digitValues ∧ (v.c2, j) ∈ digitValues ∧ (v.c3, k) ∈ digitValues ∧ n = 100 * i + 10 * j + k)

/-- The same operation `n` times. -/
def repeatExec (i : Instr) : Nat → State → Result
  | 0, s => .next s
  | n + 1, s => andThen (exec i s) (repeatExec i n)

/-- The sixteen enabled edges that carry `v`, bit 15 first, a logical 1 electrically low (R63, R64, R81). -/
def wire (v : Frame) : List Event :=
  (List.range 16).map fun k => Event.clk (if v.getLsbD (15 - k) then .low else .high) .low

/-- `cmd` after `Wait(d)` before the point `p`: suspended for `d` ticks, or at once at `p` (R17; log 11). -/
def suspended (op : HostOp) (d : Nat) (p : Point) : Cmd :=
  .busy op (if d = 0 then .ready p else .waiting d p)

/-- What H.SET_TEMP does next with a readable setpoint `cur` and `presses` presses left (R184): true at the target,
false when no press is left, else a tap toward the target with the neighbour as the expected reading. -/
def TempGoesOn (s : State) (target cur : Int) (presses : Nat) (o : Result) : Prop :=
  (cur = target → o = .next { s with fg.cmd := .idle, world.result := some (.bool true) }) ∧
  (cur ≠ target → presses = 0 → o = .next { s with fg.cmd := .idle, world.result := some (.bool false) }) ∧
  (cur < target → presses ≠ 0 → o = .next { s with
    fg.cmd := .busy .setTemp (.ready (.pollQuiet .tempUp s.cfg.pressShortCount s.cfg.buzzerWaitTries
      (.tempStep target (presses - 1) (cur + 1)))) }) ∧
  (target < cur → presses ≠ 0 → o = .next { s with
    fg.cmd := .busy .setTemp (.ready (.pollQuiet .tempDown s.cfg.pressShortCount s.cfg.buzzerWaitTries
      (.tempStep target (presses - 1) (cur - 1)))) })

/-- What H.SET_DISINF does next with the duration reading `cur` and `presses` presses left (R185). -/
def DisinfGoesOn (s : State) (target : Int) (cur : Option Int) (presses : Nat) (o : Result) : Prop :=
  (cur = some target → o = .next { s with fg.cmd := .idle, world.result := some (.bool true) }) ∧
  (cur ≠ some target → presses = 0 → o = .next { s with
    fg.cmd := .idle, world.result := some (.bool false) }) ∧
  (cur ≠ some target → presses ≠ 0 → o = .next { s with
    fg.cmd := .busy .setDisinf (.ready (.pollQuiet .disinf s.cfg.pressCount s.cfg.buzzerWaitTries
      (.disinfStep target (presses - 1) cur))) })

/-- The no-op or press of a toggle (R178): the first foreground action of `i req` for a button `b` whose lamp has
the bit `m`. -/
def Toggles (i : Bool → Instr) (op : HostOp) (b : Button) (m : Cfg → Mask) : Prop :=
  ∀ (req : Bool) (s : State), s.fg.cmd = .idle →
    ((req = true ↔ LampOn s (m s.cfg)) →
      exec (i req) s = .next { s with fg.cmd := .idle, world.result := some (.bool true) }) ∧
    (¬ (req = true ↔ LampOn s (m s.cfg)) →
      exec (i req) s = .next { s with
        fg.cmd := .busy op (.ready (.pollQuiet b s.cfg.pressCount s.cfg.buzzerWaitTries .direct)) })

/-- The accessor `i` returns the lamp with the bit `m`, UNDEF before the first publish, and changes nothing else (R203). -/
def ReadsLamp (i : Instr) (m : Cfg → Mask) : Prop :=
  ∀ s : State, exec i s = .next { s with
    world.result := some (.tri (s.led.pubLed.map fun l => decide ((l &&& m s.cfg) ≠ 0#16))) }

/-- The host commands of R177 to R185. -/
def IsCommand : Instr → Prop
  | .hPress _ _ | .hSetPower _ | .hSetFilter _ | .hSetBubble _ | .hSetHeater _ | .hSetJet _ | .hSetTemp _
  | .hSetDisinf _ => True
  | _ => False

/-- The read accessors of R200. -/
def IsAccessor : Instr → Prop
  | .hGetOnline | .hGetFramesTotal | .hGetFramesDropped | .hGetPower | .hGetFilter | .hGetBubble | .hGetHeaterOn
  | .hGetHeaterStandby | .hGetBuzzer | .hGetJet | .hGetDisinf | .hGetLedRaw | .hGetActualC | .hGetDesiredC
  | .hGetDurationH | .hGetError => True
  | _ => False

/-- Two states agree on everything the accessors may show (R40 to R42, R38, R208). -/
def SamePublished (s t : State) : Prop :=
  s.cfg = t.cfg ∧ s.led.pubLed = t.led.pubLed ∧ s.display.pubActual = t.display.pubActual
    ∧ s.display.pubDesired = t.display.pubDesired ∧ s.display.pubDuration = t.display.pubDuration
    ∧ s.display.errCode = t.display.errCode ∧ s.sampler.frameTotal = t.sampler.frameTotal
    ∧ s.sampler.frameDropped = t.sampler.frameDropped ∧ s.fg.online = t.fg.online

/-- Two states agree on everything a command may read or write (R187): the published registers, the press counters, the
foreground with the command's locals, and the result handed to HOST. -/
def SameForCommands (s t : State) : Prop :=
  SamePublished s t ∧ s.press = t.press ∧ s.fg = t.fg ∧ s.world.result = t.world.result

/-- The composite `v` completed once for each frame-counter value of the list. -/
def feedComposite (c : Cfg) (v : Composite) : List Nat → Display → Display
  | [], d => d
  | fc :: rest, d => feedComposite c v rest (processComposite c fc v d)

end Sys2Proof.Claims

open Sys2Proof Sys2Proof.Machine Sys2Proof.Claims

/-! ## Encoding and selection -/

/-- Decoding the code of a well-formed operation gives the operation back, for every operation and configuration; and a
host call that selects an operation is that operation's code, so that no other name and no other kind of argument selects
one (R62, R73; decision D29: the name is the selector). -/
def Obligations.DecodeEncodeAgree : Prop :=
  (∀ (c : Cfg) (i : Instr), c.wellFormed = true → i.wellFormed c = true → decode c (encode c i) = .ok i) ∧
  (∀ (c : Cfg) (call : HostCall) (i : Instr), decodeCall call = .ok i → encode c i = .call call)

/-- Every frame value selects one operation, the only well-formed one that it encodes (R82, R94; the order of the
tests is the spec's decision D5, D6, D19). -/
def Obligations.EveryFrameSelectsOneOperation : Prop :=
  ∀ (c : Cfg) (f : Frame), c.wellFormed = true →
    (decodeFrame c f).wellFormed c = true ∧ encode c (decodeFrame c f) = .frame f ∧
    ∀ i : Instr, i.wellFormed c = true → encode c i = .frame f → i = decodeFrame c f

/-- Frame words of spec/95_test_vectors.md T10, and 0x3630, which is `DIGIT 2 '3'` of its section 1 and of R133, with
their operations in `CFG_REF7` and `CFG_REF9` (reference values of decision D4). 0x4140 rests on the class order of
decision D5, 0x0402 and 0x0210 on the button order of decision D19; decodeTableWord reads under `CFG_REF9`,
log 1. -/
def Obligations.TableWordsDecode : Prop :=
  decodeFrame Cfg.ref7 0x0100#16 = .fCue ∧
  decodeFrame Cfg.ref7 0x4140#16 = .fDigitP1 0x4140#16 ∧
  decodeFrame Cfg.ref7 0x3630#16 = .fDigitP2 0x3630#16 ∧
  decodeFrame Cfg.ref7 0x4101#16 = .fLed 0x4101#16 ∧
  decodeFrame Cfg.ref7 0x0402#16 = .fBtnPower 0x0402#16 ∧
  decodeFrame Cfg.ref7 0x0101#16 = .fBtnNone 0x0101#16 ∧
  decodeFrame Cfg.ref7 0x0210#16 = .fUnknown 0x0210#16 ∧
  decodeFrame Cfg.ref9 0x0210#16 = .fBtnJet 0x0210#16 ∧
  decodeFrame Cfg.ref9 0x0110#16 = .fBtnDisinf 0x0110#16 ∧
  decodeTableWord 16 0x0000 = some .fZero

/-- R89: the character of the pattern that a table row lights is that row's character; a pattern of no row has none;
the pattern with no segment lit is the blank. -/
def Obligations.GlyphTableDecodes : Prop :=
  ∀ c : Cfg, c.wellFormed = true →
    (∀ ch g, (ch, g) ∈ c.glyphs → decodeGlyph c (segmask c g) = some ch) ∧
    (∀ pat, (∀ r ∈ c.glyphs, segmask c r.2 ≠ pat) → decodeGlyph c pat = none) ∧
    decodeGlyph c 0#16 = some .blank

/-- R81: from a frame boundary, sixteen enabled edges hand exactly the value on the wire to the operation it selects,
after one count of the total (an enabled edge has the latch low by decision D2; that RPG is idle afterwards is decision D20;
count before dispatch is decision D31). -/
def Obligations.SixteenEdgesAssembleTheFrame : Prop :=
  ∀ (s : State) (v : Frame), s.sampler.nbits = 0#5 → s.reply.dataPin = .input → s.world.inputs = [] →
    runSteps 16 (feed (wire v) s) =
      andThen
        (exec (decodeFrame s.cfg v) { s with
          sampler.sr := v
          sampler.nbits := 16#5
          sampler.frameTotal := (s.sampler.frameTotal + 1) % 2 ^ s.cfg.wFc
          reply.rpg := .idle
          reply.latchLevel := .low })
        fun t => .next { t with sampler.nbits := 0#5 }

/-- A step runs the operation that is decoded: at an edge, the sampler operation that the enable and `nbits` select,
and when the frame completes, the operation of the frame; at a host call, the operation of the name, a name that selects
none being refused; any other input takes its effect, and without an input nothing moves (R110, R112, R62, R73;
decisions D3, D31; inputs as a list, log 2, log 3). -/
def Obligations.StepRunsTheDecodedOperation : Prop :=
  (∀ (s : State) (d l : Level) (rest : List Event), s.world.inputs = .clk d l :: rest →
    s.sampler.nbits.toNat < 15 →
      step s = exec (decodeEdge (sampleEnable l) (sampleBit d s) s.sampler.nbits)
        (edgeStart l { s with world.inputs := rest })) ∧
  (∀ (s : State) (d l : Level) (rest : List Event) (f : Frame), s.world.inputs = .clk d l :: rest →
    s.sampler.nbits = 15#5 → f = (s.sampler.sr <<< 1) ||| (BitVec.ofBool (sampleBit d s)).setWidth 16 →
      step s = andThen
        (exec (decodeFrame s.cfg f) { edgeStart l { s with world.inputs := rest } with
          sampler := { s.sampler with
            sr := f, nbits := 16#5, frameTotal := (s.sampler.frameTotal + 1) % 2 ^ s.cfg.wFc } })
        fun t => .next { t with sampler.nbits := 0#5 }) ∧
  (∀ (s : State) (call : HostCall) (rest : List Event) (i : Instr), s.world.inputs = .host call :: rest →
    decodeCall call = .ok i → step s = exec i { s with world.inputs := rest }) ∧
  (∀ (s : State) (call : HostCall) (rest : List Event) (err : DecodeError), s.world.inputs = .host call :: rest →
    decodeCall call = .error err → step s = .refused (.badCall err)) ∧
  (∀ (s : State) (e : Event) (rest : List Event), s.world.inputs = e :: rest →
    step s = runEvent e { s with world.inputs := rest }) ∧
  (∀ s : State, s.world.inputs = [] → step s = .next s)

/-! ## Sampler operations -/

/-- R111, the effect of S.SHIFT: the bit enters at bit 0, every other bit moves up by one, the count advances. -/
def Obligations.ShiftMovesBitsUp : Prop :=
  ∀ (bit : Bool) (s : State), ∃ sr : Frame,
    exec (.sShift bit) s = .next { s with sampler.sr := sr, sampler.nbits := s.sampler.nbits + 1#5 } ∧
    sr.getLsbD 0 = bit ∧ ∀ i : Nat, i < 15 → sr.getLsbD (i + 1) = s.sampler.sr.getLsbD i

/-- S.COMPLETE counts the frame, runs the one operation that the frame value selects to a next state, and sets `nbits`
to 0; it changes no dropped counter and keeps the frame register (R112; decision D31 for the order). -/
def Obligations.CompleteCountsAndDispatches : Prop :=
  ∀ s : State, ∃ t : State,
    exec (decodeFrame s.cfg s.sampler.sr)
      { s with sampler.frameTotal := (s.sampler.frameTotal + 1) % 2 ^ s.cfg.wFc } = .next t ∧
    exec .sComplete s = .next { t with sampler.nbits := 0#5 } ∧
    t.sampler = { s.sampler with frameTotal := (s.sampler.frameTotal + 1) % 2 ^ s.cfg.wFc } ∧
    t.fg = s.fg ∧ t.cfg = s.cfg

/-- S.DROP at a disabled edge with 1 to 14 bits; no decoder register is touched, the bit is not shifted; with 15 bits or
none an edge never drops (R113; decision D3 for the late sixteenth bit). -/
def Obligations.DropCountsBothAndKeepsDecoders : Prop :=
  (∀ s : State, exec .sDrop s = .next { s with
      sampler.nbits := 0#5
      sampler.frameTotal := (s.sampler.frameTotal + 1) % 2 ^ s.cfg.wFc
      sampler.frameDropped := (s.sampler.frameDropped + 1) % 2 ^ s.cfg.wFc }) ∧
  (∀ (en bit : Bool) (n : BitVec 5), n.toNat ≤ 15 →
    (decodeEdge en bit n = .sDrop ↔ en = false ∧ 0 < n.toNat ∧ n.toNat < 15))

/-- A disabled edge between frames selects S.IDLE, which changes nothing (R114), and the all-zero frame, and no other,
selects F.ZERO, which changes nothing (R122): both inferences of the spec. -/
def Obligations.IdleEdgeAndZeroFrameChangeNothing : Prop :=
  (∀ s : State, exec .sIdle s = .next s ∧ exec .fZero s = .next s) ∧
  (∀ (en bit : Bool) (n : BitVec 5), n.toNat ≤ 15 → (decodeEdge en bit n = .sIdle ↔ en = false ∧ n = 0#5)) ∧
  (∀ (c : Cfg) (f : Frame), c.wellFormed = true → (decodeFrame c f = .fZero ↔ f = 0#16))

/-- The counters at a clock edge: a drop counts in both, a completion in the total only, any other edge in neither
(R112 to R114, R117, an inference of the spec; decisions D2, D3). -/
def Obligations.EdgeCounting : Prop :=
  ∀ (s t : State) (d l : Level), s.sampler.nbits.toNat ≤ 15 → runEvent (.clk d l) s = .next t →
    t.sampler.frameTotal =
      (if s.sampler.nbits = 15#5 ∨ (l = .high ∧ s.sampler.nbits ≠ 0#5)
        then (s.sampler.frameTotal + 1) % 2 ^ s.cfg.wFc else s.sampler.frameTotal) ∧
    t.sampler.frameDropped =
      (if l = .high ∧ s.sampler.nbits ≠ 0#5 ∧ s.sampler.nbits ≠ 15#5
        then (s.sampler.frameDropped + 1) % 2 ^ s.cfg.wFc else s.sampler.frameDropped)

/-! ## Frame operations without effect -/

/-- R121: the frame equal to the cue, and no other, selects F.CUE, which changes nothing. -/
def Obligations.CueFramesAreDiscarded : Prop :=
  (∀ (c : Cfg) (f : Frame), decodeFrame c f = .fCue ↔ f = c.cue) ∧ ∀ s : State, exec .fCue s = .next s

/-- R123: F.UNKNOWN is selected when no test before it succeeds; it changes nothing, the dropped counter neither. -/
def Obligations.UnknownFramesAreDiscarded : Prop :=
  (∀ (c : Cfg) (f : Frame), decodeFrame c f = .fUnknown f ↔
    f ≠ c.cue ∧ (f &&& c.digitAny) = 0#16 ∧ (f &&& c.ledMark) = 0#16 ∧ (f &&& c.buttonAny) = 0#16 ∧ f ≠ 0#16) ∧
  ∀ (f : Frame) (s : State), exec (.fUnknown f) s = .next s

/-- F.BTN.NONE is selected by a BUTTON frame without a button bit, and it changes nothing (R172; decision D5 for what is a
BUTTON frame). -/
def Obligations.ButtonlessFramesAreDiscarded : Prop :=
  (∀ (c : Cfg) (f : Frame), decodeFrame c f = .fBtnNone f ↔
    f ≠ c.cue ∧ (f &&& c.digitAny) = 0#16 ∧ (f &&& c.ledMark) = 0#16 ∧ (f &&& c.buttonAny) ≠ 0#16 ∧
      ∀ b ∈ c.buttons, ∀ m, c.btn b = some m → (f &&& m) = 0#16) ∧
  ∀ (f : Frame) (s : State), exec (.fBtnNone f) s = .next s

/-! ## Display Decoder -/

/-- R131: a DIGIT frame whose pattern is no row of the glyph table changes nothing at all, at every position. -/
def Obligations.UnknownPatternChangesNothing : Prop :=
  ∀ (k : Pos) (f : Frame) (s : State), (∀ r ∈ s.cfg.glyphs, segmask s.cfg r.2 ≠ f &&& s.cfg.segments) →
    exec (Instr.digit k f) s = .next s

/-- A DIGIT frame for a position that is not awaited changes nothing, position 1 included (R132; decision D9). -/
def Obligations.PositionNotAwaitedChangesNothing : Prop :=
  ∀ (f : Frame) (s : State),
    (s.display.dpos ≠ .aw1 → exec (.fDigitP1 f) s = .next s) ∧
    (s.display.dpos ≠ .aw2 → exec (.fDigitP2 f) s = .next s) ∧
    (s.display.dpos ≠ .aw3 → exec (.fDigitP3 f) s = .next s) ∧
    (s.display.dpos ≠ .aw4 → exec (.fDigitP4 f) s = .next s)

/-- An accepted character, read from the segment bits alone (R85, R89; decision D7 for the decimal point), is stored and
the next position awaited; position 4 leaves AW1 whatever its composite does (R133; decision D9 for the completion inside
the step). -/
def Obligations.AcceptedCharacterIsStored : Prop :=
  ∀ (f : Frame) (s : State) (ch : Glyph), decodeGlyph s.cfg (f &&& s.cfg.segments) = some ch →
    (s.display.dpos = .aw1 → exec (.fDigitP1 f) s = .next { s with
      display.comp := { s.display.comp with c1 := ch }, display.dpos := .aw2 }) ∧
    (s.display.dpos = .aw2 → exec (.fDigitP2 f) s = .next { s with
      display.comp := { s.display.comp with c2 := ch }, display.dpos := .aw3 }) ∧
    (s.display.dpos = .aw3 → exec (.fDigitP3 f) s = .next { s with
      display.comp := { s.display.comp with c3 := ch }, display.dpos := .aw4 }) ∧
    (s.display.dpos = .aw4 → ∃ d : Display, exec (.fDigitP4 f) s = .next { s with display := d } ∧
      d.comp = { s.display.comp with c4 := ch } ∧ d.dpos = .aw1)

/-- R134: a composite equal to the reference counts down, and at zero is confirmed with the counter reloaded; the counter
never rests at 0. -/
def Obligations.EqualCompositeCountsDown : Prop :=
  ∀ (f : Frame) (s : State) (v : Composite), CompletesComposite s f v → s.display.latest = some v →
    (s.display.stableCnt ≠ 1#8 → exec (.fDigitP4 f) s = .next { s with
      display := { s.display with comp := v, dpos := .aw1, stableCnt := s.display.stableCnt - 1#8 } }) ∧
    (s.display.stableCnt = 1#8 → exec (.fDigitP4 f) s = .next { s with
      display := confirmed s.cfg s.sampler.frameTotal v (onConfirm s v) }) ∧
    (s.display.stableCnt ≠ 0#8 → s.cfg.confirmDisp ≠ 0#8 → ∃ t, exec (.fDigitP4 f) s = .next t ∧
      t.display.stableCnt ≠ 0#8)

/-- A composite different from the reference becomes the reference and reloads both counters; it publishes nothing
(R135; decision D11 makes a blank one no exception). -/
def Obligations.ChangedCompositeBecomesReference : Prop :=
  ∀ (f : Frame) (s : State) (v : Composite), CompletesComposite s f v → s.display.latest ≠ some v →
    exec (.fDigitP4 f) s = .next { s with
      display := { s.display with
        comp := v, dpos := .aw1, latest := some v, stableCnt := s.cfg.confirmDisp
        blankCnt := s.cfg.confirmBlank } }

/-- A confirmed blank counts the blank debounce down; at zero it only refreshes the origin of the ages
(R138; decisions D11, D12). -/
def Obligations.ConfirmedBlankDebounce : Prop :=
  ∀ (f : Frame) (s : State), Confirms s f .blank4 →
    (s.display.blankCnt = 0#8 → exec (.fDigitP4 f) s = .next { s with
      display := { onConfirm s .blank4 with lastBlankFc := s.sampler.frameTotal } }) ∧
    (s.display.blankCnt ≠ 0#8 → s.display.blankCnt ≠ 1#8 → exec (.fDigitP4 f) s = .next { s with
      display := { onConfirm s .blank4 with blankCnt := s.display.blankCnt - 1#8 } })

/-- An accepted blank starts an episode, or counts a blink and publishes the candidate under the five conditions; the
candidate is cleared either way (R139; decisions D11 to D13). -/
def Obligations.AcceptedBlankCountsAndPublishes : Prop :=
  ∀ (f : Frame) (s : State), Confirms s f .blank4 → s.display.blankCnt = 1#8 →
    (s.display.blinking = false → exec (.fDigitP4 f) s = .next { s with
      display := { onConfirm s .blank4 with
        blankCnt := 0#8, lastBlankFc := s.sampler.frameTotal, blinking := true, blinkCount := 0#8
        blinkPending := none, blinkStab := 0#8 } }) ∧
    (s.display.blinking = true → ∃ (count : Count) (des : Option Composite),
      count.toNat = min (s.display.blinkCount.toNat + 1) 255 ∧
      ((s.cfg.blinkMinCycles ≤ count.toNat ∧ s.display.blinkPending ≠ none ∧
          s.cfg.blinkTempFrames ≤ s.display.blinkStab.toNat ∧ s.display.errCode = none) →
        des = s.display.blinkPending) ∧
      (¬ (s.cfg.blinkMinCycles ≤ count.toNat ∧ s.display.blinkPending ≠ none ∧
          s.cfg.blinkTempFrames ≤ s.display.blinkStab.toNat ∧ s.display.errCode = none) →
        des = s.display.pubDesired) ∧
      exec (.fDigitP4 f) s = .next { s with
        display := { onConfirm s .blank4 with
          blankCnt := 0#8, lastBlankFc := s.sampler.frameTotal, blinkCount := count, pubDesired := des
          blinkPending := none, blinkStab := 0#8 } })

/-- R141: a confirmed non-blank composite older than the threshold ends the episode, keeps the blink count and the
desired reading; and an episode ends in no other way, at a DIGIT frame and in every whole step: the step that ends one
completes a position-4 frame that confirms such a composite, its age taken after the count (decision D31). -/
def Obligations.BlinkEpisodeEnds : Prop :=
  (∀ (f : Frame) (s : State) (v : Composite), CountersFit s → Confirms s f v → v ≠ .blank4 → EndsEpisode s →
    ∃ d : Display, exec (.fDigitP4 f) s = .next { s with display := d } ∧ d.blinking = false ∧
      d.blinkPending = none ∧ d.blinkStab = 0#8 ∧ d.blinkCount = s.display.blinkCount ∧
      d.pubDesired = s.display.pubDesired) ∧
  (∀ (k : Pos) (f : Frame) (s t : State), CountersFit s → exec (Instr.digit k f) s = .next t →
    s.display.blinking = true → t.display.blinking = false →
    k = .p4 ∧ EndsEpisode s ∧ ∃ v, v ≠ .blank4 ∧ Confirms s f v) ∧
  (∀ s t : State, CountersFit s → step s = .next t → s.display.blinking = true → t.display.blinking = false →
    EndsEpisode (afterCount s) ∧
    ∃ f v, decodeFrame s.cfg f = .fDigitP4 f ∧ v ≠ .blank4 ∧ Confirms (afterCount s) f v)

/-- A confirmed error composite latches the three characters after the marker and touches no reading
(R143, R140; decision D17). -/
def Obligations.ConfirmedErrorIsLatched : Prop :=
  ∀ (f : Frame) (s : State) (v : Composite), CountersFit s → Confirms s f v → v ≠ .blank4 →
    v.c1 = s.cfg.errorMarker →
    (¬ EndsEpisode s → exec (.fDigitP4 f) s = .next { s with
      display := { onConfirm s v with errCode := some ⟨v.c2, v.c3, v.c4⟩ } }) ∧
    (EndsEpisode s → exec (.fDigitP4 f) s = .next { s with
      display := { onConfirm s v with
        errCode := some ⟨v.c2, v.c3, v.c4⟩, blinking := false, blinkPending := none, blinkStab := 0#8 } })

/-- R144: a confirmed temperature inside an open episode collects stability, or replaces the candidate inside the
window, or does nothing; it publishes nothing (what a temperature is: R91). -/
def Obligations.ConfirmedTemperatureWhileBlinking : Prop :=
  ∀ (f : Frame) (s : State) (v : Composite), CountersFit s → Confirms s f v → v ≠ .blank4 →
    ShowsTemperature s.cfg v → s.display.blinking = true → ¬ EndsEpisode s →
    (s.display.blinkPending = some v → ∃ stab : Count, stab.toNat = min (s.display.blinkStab.toNat + 1) 255 ∧
      exec (.fDigitP4 f) s = .next { s with display := { onConfirm s v with blinkStab := stab } }) ∧
    (s.display.blinkPending ≠ some v → age s ≤ s.cfg.blinkUpdateWindow →
      exec (.fDigitP4 f) s = .next { s with
        display := { onConfirm s v with blinkPending := some v, blinkStab := 0#8 } }) ∧
    (s.display.blinkPending ≠ some v → ¬ age s ≤ s.cfg.blinkUpdateWindow →
      exec (.fDigitP4 f) s = .next { s with display := onConfirm s v })

/-- A confirmed temperature outside an open episode, the one that ends an episode included, counts down to a publish or
becomes the candidate (R145, R91; decisions D14 for the ended episode, D15 for the reload). -/
def Obligations.ConfirmedTemperatureWhileSteady : Prop :=
  ∀ (f : Frame) (s : State) (v : Composite) (d : Display), s.display.blinking = false ∨ CountersFit s →
    Confirms s f v → v ≠ .blank4 → ShowsTemperature s.cfg v → AfterEpisodeTest s v d → d.blinking = false →
    (s.display.actualCand = some v → s.display.actualCnt = 1#8 → exec (.fDigitP4 f) s = .next { s with
      display := { d with pubActual := some v, actualCnt := s.cfg.confirmActual } }) ∧
    (s.display.actualCand = some v → s.display.actualCnt ≠ 1#8 → exec (.fDigitP4 f) s = .next { s with
      display := { d with actualCnt := s.display.actualCnt - 1#8 } }) ∧
    (s.display.actualCand ≠ some v → exec (.fDigitP4 f) s = .next { s with
      display := { d with actualCand := some v, actualCnt := s.cfg.confirmActual } })

/-- A confirmed duration is published at once, blinking or not (R146; decision D15), an unsupported composite changes
nothing (R147); either may end an episode first, in which case the blink registers are cleared (R140; decision D14). -/
def Obligations.ConfirmedDurationAndUnsupported : Prop :=
  ∀ (f : Frame) (s : State) (v : Composite) (d : Display), s.display.blinking = false ∨ CountersFit s →
    Confirms s f v → v ≠ .blank4 → v.c1 ≠ s.cfg.errorMarker → v.c4 ≠ s.cfg.unitC → v.c4 ≠ s.cfg.unitF →
    AfterEpisodeTest s v d →
    (s.cfg.durationMarker = some v.c4 → exec (.fDigitP4 f) s = .next { s with
      display := { d with pubDuration := some v } }) ∧
    (s.cfg.durationMarker ≠ some v.c4 → exec (.fDigitP4 f) s = .next { s with display := d })

/-- A new steady temperature is published by composite number 1 + CONFIRM_DISP x (CONFIRM_ACTUAL + 1) of an unbroken run
and not before, whatever the frame counter reads (R145, R152, R91; latency of R271, an inference of the spec; decisions D10,
D15). -/
def Obligations.SteadyTemperatureLatency : Prop :=
  ∀ (c : Cfg) (v : Composite) (d : Display) (fcs : List Nat), c.confirmDisp ≠ 0#8 → c.confirmActual ≠ 0#8 →
    v ≠ .blank4 → ShowsTemperature c v → d.blinking = false → d.latest ≠ some v → d.actualCand ≠ some v →
    (fcs.length < 1 + c.confirmDisp.toNat * (c.confirmActual.toNat + 1) →
      (feedComposite c v fcs d).pubActual = d.pubActual) ∧
    (fcs.length = 1 + c.confirmDisp.toNat * (c.confirmActual.toNat + 1) →
      (feedComposite c v fcs d).pubActual = some v)

/-- Whole machine: the desired reading changes only in a step that accepts a blank inside an episode (the blank completes
at position 4, is confirmed, and the blank counter goes from 1 to 0, R138), to the candidate, with enough blinks, enough
stability and no error (R139, R224; decisions D11 for the acceptance, D13). -/
def Obligations.DesiredReadingChangesOnlyAtABlink : Prop :=
  ∀ s t : State, step s = .next t → t.display.pubDesired ≠ s.display.pubDesired →
    s.display.blinking = true ∧ s.display.errCode = none ∧ s.display.dpos = .aw4 ∧ s.display.stableCnt = 1#8 ∧
    s.display.latest = some .blank4 ∧ s.display.blankCnt = 1#8 ∧ t.display.blankCnt = 0#8 ∧
    s.display.blinkPending ≠ none ∧
    t.display.pubDesired = s.display.blinkPending ∧
    s.cfg.blinkTempFrames ≤ s.display.blinkStab.toNat ∧
    s.cfg.blinkMinCycles ≤ min (s.display.blinkCount.toNat + 1) 255

/-! ## LED/Status Decoder -/

/-- F.LED: a new value becomes the reference; a repeated one counts down; at zero it is published with the pulse, and an
active buzzer zeroes every press counter (R160 to R162; decision D18). -/
def Obligations.LedFrameCountsAndPublishes : Prop :=
  ∀ (f : Frame) (s : State),
    (s.led.latest ≠ some f → exec (.fLed f) s = .next { s with
      led.latest := some f, led.cnt := s.cfg.confirmLed }) ∧
    (s.led.latest = some f → s.led.cnt ≠ 1#8 → exec (.fLed f) s = .next { s with led.cnt := s.led.cnt - 1#8 }) ∧
    (s.led.latest = some f → s.led.cnt = 1#8 → (f &&& s.cfg.lampNoBeep) ≠ 0#16 →
      exec (.fLed f) s = .next { s with
        led.cnt := s.cfg.confirmLed, led.pubLed := some f, stateUpdated := true }) ∧
    (s.led.latest = some f → s.led.cnt = 1#8 → (f &&& s.cfg.lampNoBeep) = 0#16 →
      exec (.fLed f) s = .next { s with
        led.cnt := s.cfg.confirmLed, led.pubLed := some f, stateUpdated := true
        press := ⟨0#8, 0#8, 0#8, 0#8, 0#8, 0#8, 0#8, 0#8, 0#8⟩ })

/-- A new lamp value is published by the (CONFIRM_LED + 1)-th consecutive LED frame that carries it, and not before
(R162, R152; decision D10). -/
def Obligations.LedDebounceLaw : Prop :=
  ∀ (f : Frame) (s : State), s.cfg.confirmLed ≠ 0#8 → s.led.latest ≠ some f →
    (∀ n : Nat, n ≤ s.cfg.confirmLed.toNat → ∃ t, repeatExec (.fLed f) n s = .next t ∧
      t.led.pubLed = s.led.pubLed ∧ t.stateUpdated = s.stateUpdated ∧ t.press = s.press) ∧
    (∃ t, repeatExec (.fLed f) (s.cfg.confirmLed.toNat + 1) s = .next t ∧
      t.led.pubLed = some f ∧ t.stateUpdated = true ∧ t.led.latest = some f ∧ t.led.cnt = s.cfg.confirmLed)

/-! ## Buttons and replies -/

/-- R171: F.BTN.<b>, for each of the nine buttons: a non-zero counter goes down by one and one reply is scheduled; a zero
counter means no effect; `button_of` selects the operation (decisions D5, D19 for the selection, D20 and log 13 for what
scheduling leaves in RPG). -/
def Obligations.ButtonEchoCountsDownAndReplies : Prop :=
  (∀ (c : Cfg) (b : Button) (f : Frame), decodeFrame c f = Instr.button b f ↔
    f ≠ c.cue ∧ (f &&& c.digitAny) = 0#16 ∧ (f &&& c.ledMark) = 0#16 ∧ (f &&& c.buttonAny) ≠ 0#16 ∧
      buttonOf c f = some b) ∧
  ∀ (b : Button) (f : Frame) (s : State),
    (s.press.get b = 0#8 → exec (Instr.button b f) s = .next s) ∧
    (s.press.get b ≠ 0#8 → ∃ p : PressFile,
      exec (Instr.button b f) s = .next { s with
        press := p
        reply.rpg := .armed (decide (s.reply.latchLevel = .high))
        world.replies := s.world.replies ++ [⟨b, s.sampler.frameTotal⟩] } ∧
      (p.get b).toNat = (s.press.get b).toNat - 1 ∧ ∀ b', b' ≠ b → p.get b' = s.press.get b')

/-- The reply pulse: an armed reply starts its delay at a high latch line, then drives low, then releases; a move of the
latch line arms nothing and cuts no pulse; without a delay or a pulse nothing happens (R173, R174; timing left out,
log 13, the latch level as last seen, log 14). -/
def Obligations.ReplyPulseSequence : Prop :=
  ∀ s : State,
    (∀ seen l, s.reply.rpg = .armed seen → runEvent (.latch l) s = .next { s with
      reply.latchLevel := l, reply.rpg := .armed (seen || decide (l = .high)) }) ∧
    (∀ l, (∀ seen, s.reply.rpg ≠ .armed seen) → runEvent (.latch l) s = .next { s with reply.latchLevel := l }) ∧
    (s.reply.rpg = .armed true → runEvent .replyStart s = .next { s with
      reply.rpg := .drive, reply.dataPin := .drivenLow }) ∧
    (s.reply.rpg ≠ .armed true → runEvent .replyStart s = .next s) ∧
    (s.reply.rpg = .drive → runEvent .replyEnd s = .next { s with
      reply.rpg := .idle, reply.dataPin := .input }) ∧
    (s.reply.rpg ≠ .drive → runEvent .replyEnd s = .next s)

/-- At every clock edge a pulse or an armed reply from before is over: afterwards the data pin is an input, and RPG is
idle or armed by this very step (R175; decision D20). -/
def Obligations.EdgeForcesRelease : Prop :=
  ∀ (s t : State) (d l : Level), s.reply.Legal → runEvent (.clk d l) s = .next t →
    t.reply.dataPin = .input ∧ t.reply.latchLevel = l ∧
    ((t.reply.rpg = .idle ∧ t.world.replies = s.world.replies) ∨
     (t.reply.rpg = .armed (decide (l = .high)) ∧
      ∃ b, t.world.replies = s.world.replies ++ [⟨b, t.sampler.frameTotal⟩]))

/-- While the own pulse is on the line the sampled bit does not depend on the line (R175, U6; a free value, log 8). -/
def Obligations.OwnPulseHidesTheLine : Prop :=
  ∀ (s : State) (l : Level), s.reply.dataPin = .drivenLow → runEvent (.clk .low l) s = runEvent (.clk .high l) s

/-! ## Host commands -/

/-- H.PRESS on an idle foreground, for a button and a count that R177 and R45 admit: wait for a quiet buzzer first, at
most BUZZER_WAIT_TRIES polls (R177; decision D21). With any other button or count it is refused: TEMP_UNIT is never
armed (R45, an inference of the spec; decision D19; named refusals of the model, log 16, log 22). -/
def Obligations.PressStartsWithQuietWait : Prop :=
  ∀ (b : Button) (n : Count) (s : State),
    (s.fg.cmd = .idle → b ∈ s.cfg.buttons → b ≠ .tempUnit → n = s.cfg.pressCount ∨ n = s.cfg.pressShortCount →
      (¬ (BuzzerOn s ∧ s.cfg.buzzerWaitTries ≠ 0) → exec (.hPress b n) s = .next { s with
        fg.cmd := .busy .press (.ready (.checkQuiet b n .direct)) }) ∧
      (BuzzerOn s ∧ s.cfg.buzzerWaitTries ≠ 0 → exec (.hPress b n) s = .next { s with
        fg.cmd := suspended .press s.cfg.ackPoll (.pollQuiet b n (s.cfg.buzzerWaitTries - 1) .direct) })) ∧
    (b ∉ s.cfg.buttons → exec (.hPress b n) s = .refused (.buttonAbsent b)) ∧
    (b ∈ s.cfg.buttons → b = .tempUnit ∨ (n ≠ s.cfg.pressCount ∧ n ≠ s.cfg.pressShortCount) →
      exec (.hPress b n) s = .refused (.pressNotMade b n))

/-- The rest of H.PRESS, action by action, for every caller: the polls and the test of the buzzer before arming, the
arming, the poll of the counter, the final read of the buzzer; and H.PRESS itself returns the buzzer's verdict with the
counter written 0 and `cmd` idle (R177; decision D21). -/
def Obligations.PressActions : Prop :=
  ∀ (op : HostOp) (b : Button) (n : Count) (tries : Nat) (ok : Bool) (k : Caller) (s : State),
    (s.fg.cmd = .busy op (.ready (.pollQuiet b n tries k)) → BuzzerOn s ∧ tries ≠ 0 → runEvent .fg s = .next { s with
      fg.cmd := suspended op s.cfg.ackPoll (.pollQuiet b n (tries - 1) k) }) ∧
    (s.fg.cmd = .busy op (.ready (.pollQuiet b n tries k)) → ¬ (BuzzerOn s ∧ tries ≠ 0) →
      runEvent .fg s = .next { s with fg.cmd := .busy op (.ready (.checkQuiet b n k)) }) ∧
    (s.fg.cmd = .busy op (.ready (.checkQuiet b n k)) → k = .direct → BuzzerOn s → runEvent .fg s = .next { s with
      fg.cmd := .idle, world.result := some (.bool false) }) ∧
    (s.fg.cmd = .busy op (.ready (.checkQuiet b n k)) → ¬ BuzzerOn s →
      runEvent .fg s = .next { s with fg.cmd := suspended op s.cfg.settle (.arm b n k) }) ∧
    (s.fg.cmd = .busy op (.ready (.arm b n k)) → ∃ p : PressFile, runEvent .fg s = .next { s with
      press := p, fg.cmd := .busy op (.ready (.pollAck b s.cfg.ackTries k)) } ∧
      p.get b = n ∧ ∀ b', b' ≠ b → p.get b' = s.press.get b') ∧
    (s.fg.cmd = .busy op (.ready (.pollAck b tries k)) → s.press.get b ≠ 0#8 ∧ tries ≠ 0 →
      runEvent .fg s = .next { s with fg.cmd := suspended op s.cfg.ackPoll (.pollAck b (tries - 1) k) }) ∧
    (s.fg.cmd = .busy op (.ready (.pollAck b tries k)) → ¬ (s.press.get b ≠ 0#8 ∧ tries ≠ 0) →
      runEvent .fg s = .next { s with fg.cmd := .busy op (.ready (.readBuzzer b k)) }) ∧
    (s.fg.cmd = .busy op (.ready (.readBuzzer b k)) → (ok = true ↔ BuzzerOn s) →
      runEvent .fg s = .next { s with fg.cmd := .busy op (.ready (.disarm b ok k)) }) ∧
    (s.fg.cmd = .busy op (.ready (.disarm b ok k)) → k = .direct → ∃ p : PressFile, runEvent .fg s = .next { s with
      press := p, fg.cmd := .idle, world.result := some (.bool ok) } ∧
      p.get b = 0#8 ∧ ∀ b', b' ≠ b → p.get b' = s.press.get b')

/-- H.SET_POWER, H.SET_FILTER, H.SET_BUBBLE: no-op with result true when the lamp already matches, UNDEF counting as off,
else a press of PRESS_COUNT (R178 to R181; decision D22). -/
def Obligations.TogglesCompareWithTheLamp : Prop :=
  Toggles .hSetPower .setPower .power Cfg.lampPower ∧
  Toggles .hSetFilter .setFilter .filter Cfg.lampFilter ∧
  Toggles .hSetBubble .setBubble .bubble Cfg.lampBubble

/-- H.SET_HEATER: either heater lamp counts as on (R182; decision D22). That heater-on is read first, and heater-standby
by a second action and only when heater-on is not on, is the model's choice (log 27). -/
def Obligations.HeaterToggleReadsBothLamps : Prop :=
  ∀ (req : Bool) (s : State),
    (s.fg.cmd = .idle → LampOn s s.cfg.lampHeaterOn → req = true → exec (.hSetHeater req) s = .next { s with
      fg.cmd := .idle, world.result := some (.bool true) }) ∧
    (s.fg.cmd = .idle → LampOn s s.cfg.lampHeaterOn → req = false → exec (.hSetHeater req) s = .next { s with
      fg.cmd := .busy .setHeater
        (.ready (.pollQuiet .heater s.cfg.pressCount s.cfg.buzzerWaitTries .direct)) }) ∧
    (s.fg.cmd = .idle → ¬ LampOn s s.cfg.lampHeaterOn → exec (.hSetHeater req) s = .next { s with
      fg.cmd := .busy .setHeater (.ready (.readStandby req)) }) ∧
    (s.fg.cmd = .busy .setHeater (.ready (.readStandby req)) → (req = true ↔ LampOn s s.cfg.lampHeaterStandby) →
      runEvent .fg s = .next { s with fg.cmd := .idle, world.result := some (.bool true) }) ∧
    (s.fg.cmd = .busy .setHeater (.ready (.readStandby req)) → ¬ (req = true ↔ LampOn s s.cfg.lampHeaterStandby) →
      runEvent .fg s = .next { s with
        fg.cmd := .busy .setHeater
          (.ready (.pollQuiet .heater s.cfg.pressCount s.cfg.buzzerWaitTries .direct)) })

/-- H.SET_JET: false and no effect on BASE7; a toggle of the jet lamp on EXT9 (R183, U15; decision D22). -/
def Obligations.JetToggleByVariant : Prop :=
  ∀ (req : Bool) (s : State), s.fg.cmd = .idle →
    (s.cfg.variant = .base7 → exec (.hSetJet req) s = .next { s with
      fg.cmd := .idle, world.result := some (.bool false) }) ∧
    (∀ m, s.cfg.variant = .ext9 → s.cfg.lampJet = some m →
      ((req = true ↔ LampOn s m) → exec (.hSetJet req) s = .next { s with
        fg.cmd := .idle, world.result := some (.bool true) }) ∧
      (¬ (req = true ↔ LampOn s m) → exec (.hSetJet req) s = .next { s with
        fg.cmd := .busy .setJet (.ready (.pollQuiet .jet s.cfg.pressCount s.cfg.buzzerWaitTries .direct)) }))

/-- H.SET_TEMP: the target is clamped, not refused; an unreadable setpoint starts the probe, a matching one ends at once,
any other starts a tap toward the target (R184; decisions D23, D32). -/
def Obligations.SetTempStarts : Prop :=
  ∀ (t target : Int) (s : State), s.fg.cmd = .idle → s.cfg.tempSetMin ≤ s.cfg.tempSetMax →
    ((t < s.cfg.tempSetMin ∧ target = s.cfg.tempSetMin) ∨ (t > s.cfg.tempSetMax ∧ target = s.cfg.tempSetMax) ∨
      (s.cfg.tempSetMin ≤ t ∧ t ≤ s.cfg.tempSetMax ∧ target = t)) →
    (celsius s.cfg s.display.pubDesired = none → exec (.hSetTemp t) s = .next { s with
      fg.cmd := .busy .setTemp
        (.ready (.pollQuiet .tempDown s.cfg.pressShortCount s.cfg.buzzerWaitTries (.probe target))) }) ∧
    (∀ cur, celsius s.cfg s.display.pubDesired = some cur →
      TempGoesOn s target cur s.cfg.maxPresses (exec (.hSetTemp t) s))

/-- H.SET_DISINF: false and no effect on BASE7; on EXT9 a matching reading ends at once, any other or none starts a press
of DISINF while the budget allows one (R185; decision D24). -/
def Obligations.SetDisinfStarts : Prop :=
  ∀ (h : Int) (s : State), s.fg.cmd = .idle →
    (s.cfg.variant = .base7 → exec (.hSetDisinf h) s = .next { s with
      fg.cmd := .idle, world.result := some (.bool false) }) ∧
    (s.cfg.variant = .ext9 →
      DisinfGoesOn s (snap s.cfg h) (hours s.cfg s.display.pubDuration) s.cfg.disinfMaxPresses
        (exec (.hSetDisinf h) s))

/-- The read-back loops of H.SET_TEMP and H.SET_DISINF: a press that returns, with either result, and a press turned away
by an active buzzer, go on to the first read-back; a read-back that is expected, or the last one, decides, any other
waits for the next (R184, R185; decisions D23, D24; log 10). -/
def Obligations.SetpointReadbacks : Prop :=
  ∀ (op : HostOp) (b : Button) (n : Count) (ok : Bool) (k : Caller) (p : Point) (s : State) (target : Int)
    (presses tries : Nat) (expect : Int) (cur : Option Int),
    ((k = .probe target ∧ p = .readProbe target (s.cfg.readbackTries - 1)) ∨
      (k = .tempStep target presses expect ∧ p = .readStep target presses expect (s.cfg.readbackTries - 1)) ∨
      (k = .disinfStep target presses cur ∧ p = .readDisinf target presses cur (s.cfg.readbackTries - 1)) →
      (s.fg.cmd = .busy op (.ready (.disarm b ok k)) → ∃ file : PressFile, runEvent .fg s = .next { s with
        press := file, fg.cmd := suspended op s.cfg.readbackPoll p } ∧
        file.get b = 0#8 ∧ ∀ b', b' ≠ b → file.get b' = s.press.get b') ∧
      (s.fg.cmd = .busy op (.ready (.checkQuiet b n k)) → BuzzerOn s → runEvent .fg s = .next { s with
        fg.cmd := suspended op s.cfg.readbackPoll p })) ∧
    (s.fg.cmd = .busy .setTemp (.ready (.readProbe target tries)) →
      (∀ now, celsius s.cfg s.display.pubDesired = some now →
        TempGoesOn s target now s.cfg.maxPresses (runEvent .fg s)) ∧
      (celsius s.cfg s.display.pubDesired = none → tries = 0 → runEvent .fg s = .next { s with
        fg.cmd := .idle, world.result := some (.bool false) }) ∧
      (celsius s.cfg s.display.pubDesired = none → tries ≠ 0 → runEvent .fg s = .next { s with
        fg.cmd := suspended .setTemp s.cfg.readbackPoll (.readProbe target (tries - 1)) })) ∧
    (s.fg.cmd = .busy .setTemp (.ready (.readStep target presses expect tries)) →
      (∀ now, celsius s.cfg s.display.pubDesired = some now → now = expect ∨ tries = 0 →
        TempGoesOn s target now presses (runEvent .fg s)) ∧
      (celsius s.cfg s.display.pubDesired = none → tries = 0 → runEvent .fg s = .next { s with
        fg.cmd := .idle, world.result := some (.bool false) }) ∧
      (celsius s.cfg s.display.pubDesired ≠ some expect → tries ≠ 0 → runEvent .fg s = .next { s with
        fg.cmd := suspended .setTemp s.cfg.readbackPoll (.readStep target presses expect (tries - 1)) })) ∧
    (s.fg.cmd = .busy .setDisinf (.ready (.readDisinf target presses cur tries)) →
      (∀ now, hours s.cfg s.display.pubDuration = now → (now ≠ none ∧ now ≠ cur) ∨ tries = 0 →
        DisinfGoesOn s target now presses (runEvent .fg s)) ∧
      (∀ now, hours s.cfg s.display.pubDuration = now → now = none ∨ now = cur → tries ≠ 0 →
        runEvent .fg s = .next { s with
          fg.cmd := suspended .setDisinf s.cfg.readbackPoll (.readDisinf target presses cur (tries - 1)) }))

/-- The target of H.SET_DISINF is a nearest member of DISINF_STEPS, and no nearer or equally near member is smaller
(R185; decision D24). -/
def Obligations.SnapIsNearestSmallerFirst : Prop :=
  ∀ (c : Cfg) (h : Int), c.disinfSteps ≠ [] →
    snap c h ∈ c.disinfSteps ∧
    ∀ m ∈ c.disinfSteps, (h - snap c h).natAbs ≤ (h - m).natAbs ∧
      ((h - m).natAbs = (h - snap c h).natAbs → snap c h ≤ m)

/-- R187: a command, at its start and at every later action, writes press counters, its own place in `cmd` and its
result, and nothing else; and it reads the published registers, the press counters and its own locals only. -/
def Obligations.CommandsTouchOnlyPressCountersAndLocals : Prop :=
  (∀ (i : Instr) (s t : State), IsCommand i → exec i s = .next t →
    t = { s with press := t.press, fg.cmd := t.fg.cmd, world.result := t.world.result }) ∧
  (∀ s t : State, runEvent .fg s = .next t →
    t = { s with press := t.press, fg.cmd := t.fg.cmd, world.result := t.world.result }) ∧
  (∀ (i : Instr) (s s' t : State), IsCommand i → SameForCommands s s' → exec i s = .next t →
    ∃ t', exec i s' = .next t' ∧ SameForCommands t t') ∧
  (∀ s s' t : State, SameForCommands s s' → runEvent .fg s = .next t →
    ∃ t', runEvent .fg s' = .next t' ∧ SameForCommands t t')

/-- A command or H.LIVENESS while a command runs is refused (R186, R210, U9; named refusal of the model, log 22). -/
def Obligations.SecondCommandIsRefused : Prop :=
  ∀ (i : Instr) (s : State) (op : HostOp) (pl : Place), s.fg.cmd = .busy op pl →
    (IsCommand i ∨ i = .hLiveness) → i.wellFormed s.cfg = true → exec i s = .refused (.hostBusy op)

/-- Every command ends after a bounded number of foreground actions and ticks whatever BUS does (R186): each action of a
command that is about to act, and each tick of one in a Wait, lowers its work, and no other input moves it. A tick takes
one from a Wait and ends one of a single tick; an action during a Wait, a tick outside one, and both without a command
change nothing (R17, R97; log 6, log 10, log 11). -/
def Obligations.CommandsAreBounded : Prop :=
  (∀ (s : State) (op : HostOp) (p : Point), s.fg.cmd = .busy op (.ready p) →
    (∃ t, runEvent .fg s = .next t ∧ t.cfg = s.cfg ∧ t.fg.cmd.work t.cfg < s.fg.cmd.work s.cfg) ∧
    runEvent .tick s = .next s) ∧
  (∀ (s : State) (op : HostOp) (n : Nat) (p : Point), s.fg.cmd = .busy op (.waiting n p) →
    (∃ t, runEvent .tick s = .next t ∧ t = { s with fg.cmd := suspended op (n - 1) p } ∧
      t.fg.cmd.work t.cfg < s.fg.cmd.work s.cfg) ∧
    runEvent .fg s = .next s) ∧
  (∀ s : State, s.fg.cmd = .idle → runEvent .fg s = .next s ∧ runEvent .tick s = .next s) ∧
  (∀ (s t : State) (e : Event), s.fg.cmd ≠ .idle → e ≠ .fg → e ≠ .tick → runEvent e s = .next t →
    t.cfg = s.cfg ∧ t.fg.cmd = s.fg.cmd)

/-! ## Readings -/

/-- The lamp accessors (R203; that the extended lamps read UNDEF on BASE7 is decision D22). -/
def Obligations.LampAccessors : Prop :=
  ReadsLamp .hGetPower Cfg.lampPower ∧ ReadsLamp .hGetFilter Cfg.lampFilter ∧
  ReadsLamp .hGetBubble Cfg.lampBubble ∧ ReadsLamp .hGetHeaterOn Cfg.lampHeaterOn ∧
  ReadsLamp .hGetHeaterStandby Cfg.lampHeaterStandby ∧
  (∀ s : State, exec .hGetBuzzer s = .next { s with
    world.result := some (.tri (s.led.pubLed.map fun l => decide ((l &&& s.cfg.lampNoBeep) = 0#16))) }) ∧
  (∀ s : State, exec .hGetLedRaw s = .next { s with world.result := some (.mask s.led.pubLed) }) ∧
  (∀ s : State, s.cfg.variant = .base7 →
    exec .hGetJet s = .next { s with world.result := some (.tri none) } ∧
    exec .hGetDisinf s = .next { s with world.result := some (.tri none) }) ∧
  (∀ (s : State) (j m : Mask), s.cfg.variant = .ext9 → s.cfg.lampJet = some j → s.cfg.lampDisinf = some m →
    exec .hGetJet s = .next { s with
      world.result := some (.tri (s.led.pubLed.map fun l => decide ((l &&& j) ≠ 0#16))) } ∧
    exec .hGetDisinf s = .next { s with
      world.result := some (.tri (s.led.pubLed.map fun l => decide ((l &&& m) ≠ 0#16))) })

/-- The counter accessors return the two counters, numbers that are 0 after construction, stay below 2^W_FC, and wrap
from 2^W_FC - 1 to 0: at a completion the total, at a drop both (R202, R112, R113; decisions D26, D28, D31). -/
def Obligations.FrameCounterAccessors : Prop :=
  (∀ s : State,
    exec .hGetFramesTotal s = .next { s with world.result := some (.counter s.sampler.frameTotal) } ∧
    exec .hGetFramesDropped s = .next { s with world.result := some (.counter s.sampler.frameDropped) }) ∧
  (∀ (cfg : Cfg) (now : Millis),
    (State.fresh cfg now).sampler.frameTotal = 0 ∧ (State.fresh cfg now).sampler.frameDropped = 0) ∧
  (∀ (s t : State), s.sampler.Legal s.cfg → step s = .next t →
    t.sampler.frameTotal < 2 ^ t.cfg.wFc ∧ t.sampler.frameDropped < 2 ^ t.cfg.wFc) ∧
  (∀ s t : State, s.sampler.frameTotal = 2 ^ s.cfg.wFc - 1 →
    (exec .sComplete s = .next t → t.sampler.frameTotal = 0) ∧ (exec .sDrop s = .next t → t.sampler.frameTotal = 0)) ∧
  (∀ s t : State, s.sampler.frameDropped = 2 ^ s.cfg.wFc - 1 → exec .sDrop s = .next t →
    t.sampler.frameDropped = 0)

/-- The temperature, duration, online and error accessors return their reading and change nothing else
(R201, R204 to R207). The hours are the number shown before the duration marker in position 4, UNDEF without a published
composite, without a marker of the variant, or with another last character (R150; decision D16); both temperatures are
in the closed range. -/
def Obligations.ReadingAccessors : Prop :=
  ∀ s : State,
    exec .hGetActualC s = .next { s with
      world.result := some (.reading (celsius s.cfg s.display.pubActual)) } ∧
    exec .hGetDesiredC s = .next { s with
      world.result := some (.reading (celsius s.cfg s.display.pubDesired)) } ∧
    exec .hGetDurationH s = .next { s with
      world.result := some (.reading (hours s.cfg s.display.pubDuration)) } ∧
    exec .hGetOnline s = .next { s with world.result := some (.bool s.fg.online) } ∧
    exec .hGetError s = .next { s with world.result := some (.error s.display.errCode) } ∧
    (s.display.pubDuration = none → hours s.cfg s.display.pubDuration = none) ∧
    (s.cfg.durationMarker = none → hours s.cfg s.display.pubDuration = none) ∧
    (∀ v, s.display.pubDuration = some v → s.cfg.durationMarker ≠ some v.c4 →
      hours s.cfg s.display.pubDuration = none) ∧
    (∀ v, s.display.pubDuration = some v → s.cfg.durationMarker = some v.c4 →
      (∀ n, ShowsNumber v n → hours s.cfg s.display.pubDuration = some n) ∧
      ((∀ n, ¬ ShowsNumber v n) → hours s.cfg s.display.pubDuration = none)) ∧
    (∀ t, celsius s.cfg s.display.pubActual = some t ∨ celsius s.cfg s.display.pubDesired = some t →
      s.cfg.tempMin ≤ t ∧ t ≤ s.cfg.tempMax)

/-- The conversion of a published composite (R149): Celsius as shown, Fahrenheit to the nearest integer Celsius, UNDEF for
another unit, no number, or outside the closed range; the Celsius marker is tested first. The number shown is the one,
two or three digits that stand after leading blanks in positions 1 to 3, and nothing else is a number (R148;
decision D16). -/
def Obligations.CelsiusConversion : Prop :=
  ∀ (c : Cfg) (v : Composite),
    celsius c none = none ∧
    ((∀ n, ¬ ShowsNumber v n) → celsius c (some v) = none) ∧
    (v.c4 ≠ c.unitC → v.c4 ≠ c.unitF → celsius c (some v) = none) ∧
    (∀ n, ShowsNumber v n → v.c4 = c.unitC →
      (c.tempMin ≤ n ∧ n ≤ c.tempMax → celsius c (some v) = some n) ∧
      (¬ (c.tempMin ≤ n ∧ n ≤ c.tempMax) → celsius c (some v) = none)) ∧
    (∀ n, ShowsNumber v n → v.c4 ≠ c.unitC → v.c4 = c.unitF → ∃ t : Int,
      (2 * (9 * t - 5 * (n - 32))).natAbs < 9 ∧
      (c.tempMin ≤ t ∧ t ≤ c.tempMax → celsius c (some v) = some t) ∧
      (¬ (c.tempMin ≤ t ∧ t ≤ c.tempMax) → celsius c (some v) = none)) ∧
    ∀ n, parse3 v = some n ↔ ShowsNumber v n

/-- What an accessor returns depends on the published registers only, never on a working register, a press counter, RPG
or the command sequencer (R208, R200). -/
def Obligations.AccessorsSeeOnlyPublishedState : Prop :=
  ∀ (i : Instr) (s t : State), IsAccessor i → SamePublished s t →
    ∃ r : HostValue, exec i s = .next { s with world.result := some r } ∧
      exec i t = .next { t with world.result := some r }

/-- H.LIVENESS: a pulse is consumed and the link is online; without a pulse for strictly more than the timeout it is
offline; else nothing (R210; decision D25, one step by D27, log 7). The input NOW sets the value of Now() and nothing else
(R17, R97; log 20). -/
def Obligations.LivenessCheck : Prop :=
  (∀ (s : State) (ms : Millis), runEvent (.now ms) s = .next { s with world.nowMs := ms }) ∧
  ∀ s : State, s.fg.cmd = .idle →
    (s.stateUpdated = true → exec .hLiveness s = .next { s with
      stateUpdated := false, fg.lastUpdateMs := s.world.nowMs, fg.online := true, world.result := some .unit }) ∧
    (s.stateUpdated = false →
      s.cfg.onlineTimeoutMult * s.cfg.cyclePeriodMs < (s.world.nowMs - s.fg.lastUpdateMs).toNat →
      exec .hLiveness s = .next { s with fg.online := false, world.result := some .unit }) ∧
    (s.stateUpdated = false →
      ¬ s.cfg.onlineTimeoutMult * s.cfg.cyclePeriodMs < (s.world.nowMs - s.fg.lastUpdateMs).toNat →
      exec .hLiveness s = .next { s with world.result := some .unit })

/-! ## Construction, invariants and whole-machine rules -/

/-- Construction accepts exactly the configurations of R11 and the ranges of R9 (log 5), and leaves every register of R47
at its value: every reading UNDEF, the link offline, the foreground and RPG idle, every counter at its start (R47, R250;
decision D28; the data pin is R46). -/
def Obligations.ConstructionStartsUndefined : Prop :=
  ∀ (cfg : Cfg) (now : Millis),
    (cfg.accepted = false → construct cfg now = .refused .badConfig) ∧
    (cfg.accepted = true → ∃ t, construct cfg now = .next t ∧ t.cfg = cfg ∧
      t.sampler.sr = 0#16 ∧ t.sampler.nbits = 0#5 ∧ t.sampler.frameTotal = 0 ∧ t.sampler.frameDropped = 0 ∧
      t.display.dpos = .aw1 ∧ t.display.comp = .blank4 ∧ t.display.latest = none ∧
      t.display.stableCnt = cfg.confirmDisp ∧ t.display.blankCnt = cfg.confirmBlank ∧ t.display.lastBlankFc = 0 ∧
      t.display.blinkCount = 0#8 ∧ t.display.blinkPending = none ∧ t.display.blinkStab = 0#8 ∧
      t.display.actualCand = none ∧ t.display.actualCnt = cfg.confirmActual ∧ t.display.blinking = false ∧
      t.display.pubActual = none ∧ t.display.pubDesired = none ∧ t.display.pubDuration = none ∧
      t.display.errCode = none ∧
      t.led.latest = none ∧ t.led.cnt = cfg.confirmLed ∧ t.led.pubLed = none ∧ t.stateUpdated = false ∧
      t.fg.online = false ∧ t.fg.lastUpdateMs = now ∧ t.fg.cmd = .idle ∧ t.reply.rpg = .idle ∧
      t.reply.dataPin = .input ∧ ∀ b, t.press.get b = 0#8)

/-- A freshly constructed instance with an accepted configuration is legal, the model's reset state among them (its
configuration and time are choices of the model, log 1, log 20). -/
def Obligations.FreshInstanceIsLegal : Prop :=
  (∀ (cfg : Cfg) (now : Millis), cfg.accepted = true → (State.fresh cfg now).Legal) ∧ State.reset.Legal

/-- Every step keeps the legal states: the ranges of the counters, the kinds of what is published, the pulse and online
flags, the press counters (none above PRESS_COUNT, those of TEMP_UNIT and of absent buttons 0: an inference of the
spec), the data pin, the running command (R22, R27 to R35, R40, R45, R46). -/
def Obligations.StepKeepsLegal : Prop :=
  ∀ s t : State, s.Legal → step s = .next t → t.Legal

/-- R44: no step writes the configuration; it is the argument of construction. -/
def Obligations.ConfigurationIsReadOnly : Prop :=
  (∀ s t : State, step s = .next t → t.cfg = s.cfg) ∧
  (∀ (cfg : Cfg) (now : Millis) (t : State), construct cfg now = .next t → t.cfg = cfg)

/-- R207: the error accessor returns the latch, no error after construction; once an error is latched, no step returns
it to UNDEF. -/
def Obligations.ErrorLatchIsNeverCleared : Prop :=
  (∀ s : State, exec .hGetError s = .next { s with world.result := some (.error s.display.errCode) }) ∧
  (∀ (cfg : Cfg) (now : Millis), (State.fresh cfg now).display.errCode = none) ∧
  (∀ s t : State, step s = .next t → s.display.errCode ≠ none → t.display.errCode ≠ none)

/-- The single-writer rule (R72, R230; with the model's result field of log 12): a clock edge leaves the foreground's
registers and the host's result alone; every other input leaves the sampler, display and LED registers alone. The press
counters have two writers (R45): an edge keeps each counter, takes one from it, or writes 0; any other input, from a legal
state, keeps it, writes 0, or arms it with one of the two press counts, TEMP_UNIT never (an inference of the spec). -/
def Obligations.ContextsWriteTheirOwnRegisters : Prop :=
  (∀ (s t : State) (d l : Level), runEvent (.clk d l) s = .next t →
    t.fg = s.fg ∧ t.world.result = s.world.result ∧ t.world.nowMs = s.world.nowMs ∧
    ∀ b, t.press.get b = s.press.get b ∨ t.press.get b = 0#8 ∨
      (s.press.get b ≠ 0#8 ∧ t.press.get b = s.press.get b - 1#8)) ∧
  (∀ (s t : State) (e : Event), (∀ d l, e ≠ .clk d l) → runEvent e s = .next t →
    t.sampler = s.sampler ∧ t.display = s.display ∧ t.led = s.led ∧
    (s.Legal → ∀ b, t.press.get b = s.press.get b ∨ t.press.get b = 0#8 ∨
      (b ≠ .tempUnit ∧ (t.press.get b = s.cfg.pressCount ∨ t.press.get b = s.cfg.pressShortCount))))

/-- The pulse is set only by a step that publishes a lamp value, and the link comes online only by a step that finds the
pulse set (R37, R38, R210; decision D25). -/
def Obligations.PulseComesFromTheLedPublish : Prop :=
  ∀ s t : State, step s = .next t →
    (s.stateUpdated = false → t.stateUpdated = true →
      s.led.cnt = 1#8 ∧ t.led.pubLed = s.led.latest ∧ t.led.pubLed ≠ none) ∧
    (s.fg.online = false → t.fg.online = true → s.stateUpdated = true)

/-- Nothing halts the block: every input except a host call gives a next state, and so does every host call of a
well-formed operation on an idle foreground (R226, R94). -/
def Obligations.OnlyHostCallsAreRefused : Prop :=
  (∀ (s : State) (e : Event), (∀ call, e ≠ .host call) → Completes (runEvent e s)) ∧
  (∀ (s : State) (i : Instr), s.fg.cmd = .idle → i.wellFormed s.cfg = true → Completes (exec i s)) ∧
  (∀ (s : State) (i : Instr), IsAccessor i → Completes (exec i s))
end

