-- ==== Sys2Proof/Laws/State.lean ====
section
/-! SUPPORT. One lemma per field of `State` for each named update, so that no proof unfolds a record update. -/

namespace Sys2Proof.Machine

/-! `countTotal` -/

@[simp] theorem countTotal_cfg (s : State) : (countTotal s).cfg = s.cfg := rfl
@[simp] theorem countTotal_sampler (s : State) :
    (countTotal s).sampler =
      { s.sampler with frameTotal := wrapFc s.cfg (s.sampler.frameTotal + 1) } := rfl
@[simp] theorem countTotal_display (s : State) : (countTotal s).display = s.display := rfl
@[simp] theorem countTotal_led (s : State) : (countTotal s).led = s.led := rfl
@[simp] theorem countTotal_stateUpdated (s : State) : (countTotal s).stateUpdated = s.stateUpdated := rfl
@[simp] theorem countTotal_press (s : State) : (countTotal s).press = s.press := rfl
@[simp] theorem countTotal_reply (s : State) : (countTotal s).reply = s.reply := rfl
@[simp] theorem countTotal_fg (s : State) : (countTotal s).fg = s.fg := rfl
@[simp] theorem countTotal_world (s : State) : (countTotal s).world = s.world := rfl

/-! `countDropped` -/

@[simp] theorem countDropped_cfg (s : State) : (countDropped s).cfg = s.cfg := rfl
@[simp] theorem countDropped_sampler (s : State) :
    (countDropped s).sampler =
      { s.sampler with frameDropped := wrapFc s.cfg (s.sampler.frameDropped + 1) } := rfl
@[simp] theorem countDropped_display (s : State) : (countDropped s).display = s.display := rfl
@[simp] theorem countDropped_led (s : State) : (countDropped s).led = s.led := rfl
@[simp] theorem countDropped_stateUpdated (s : State) : (countDropped s).stateUpdated = s.stateUpdated := rfl
@[simp] theorem countDropped_press (s : State) : (countDropped s).press = s.press := rfl
@[simp] theorem countDropped_reply (s : State) : (countDropped s).reply = s.reply := rfl
@[simp] theorem countDropped_fg (s : State) : (countDropped s).fg = s.fg := rfl
@[simp] theorem countDropped_world (s : State) : (countDropped s).world = s.world := rfl

/-! `frameBoundary` -/

@[simp] theorem frameBoundary_cfg (s : State) : (frameBoundary s).cfg = s.cfg := rfl
@[simp] theorem frameBoundary_sampler (s : State) : (frameBoundary s).sampler = { s.sampler with nbits := 0#5 } := rfl
@[simp] theorem frameBoundary_display (s : State) : (frameBoundary s).display = s.display := rfl
@[simp] theorem frameBoundary_led (s : State) : (frameBoundary s).led = s.led := rfl
@[simp] theorem frameBoundary_stateUpdated (s : State) : (frameBoundary s).stateUpdated = s.stateUpdated := rfl
@[simp] theorem frameBoundary_press (s : State) : (frameBoundary s).press = s.press := rfl
@[simp] theorem frameBoundary_reply (s : State) : (frameBoundary s).reply = s.reply := rfl
@[simp] theorem frameBoundary_fg (s : State) : (frameBoundary s).fg = s.fg := rfl
@[simp] theorem frameBoundary_world (s : State) : (frameBoundary s).world = s.world := rfl

/-! `setPress` -/

@[simp] theorem setPress_cfg (b : Button) (n : Count) (s : State) : (setPress b n s).cfg = s.cfg := rfl
@[simp] theorem setPress_sampler (b : Button) (n : Count) (s : State) : (setPress b n s).sampler = s.sampler := rfl
@[simp] theorem setPress_display (b : Button) (n : Count) (s : State) : (setPress b n s).display = s.display := rfl
@[simp] theorem setPress_led (b : Button) (n : Count) (s : State) : (setPress b n s).led = s.led := rfl
@[simp] theorem setPress_stateUpdated (b : Button) (n : Count) (s : State) :
    (setPress b n s).stateUpdated =
      s.stateUpdated := rfl
@[simp] theorem setPress_press (b : Button) (n : Count) (s : State) : (setPress b n s).press = s.press.set b n := rfl
@[simp] theorem setPress_reply (b : Button) (n : Count) (s : State) : (setPress b n s).reply = s.reply := rfl
@[simp] theorem setPress_fg (b : Button) (n : Count) (s : State) : (setPress b n s).fg = s.fg := rfl
@[simp] theorem setPress_world (b : Button) (n : Count) (s : State) : (setPress b n s).world = s.world := rfl

/-! `driveDataLow` -/

@[simp] theorem driveDataLow_cfg (s : State) : (driveDataLow s).cfg = s.cfg := rfl
@[simp] theorem driveDataLow_sampler (s : State) : (driveDataLow s).sampler = s.sampler := rfl
@[simp] theorem driveDataLow_display (s : State) : (driveDataLow s).display = s.display := rfl
@[simp] theorem driveDataLow_led (s : State) : (driveDataLow s).led = s.led := rfl
@[simp] theorem driveDataLow_stateUpdated (s : State) : (driveDataLow s).stateUpdated = s.stateUpdated := rfl
@[simp] theorem driveDataLow_press (s : State) : (driveDataLow s).press = s.press := rfl
@[simp] theorem driveDataLow_reply (s : State) :
    (driveDataLow s).reply =
      { s.reply with dataPin := .drivenLow } := rfl
@[simp] theorem driveDataLow_fg (s : State) : (driveDataLow s).fg = s.fg := rfl
@[simp] theorem driveDataLow_world (s : State) : (driveDataLow s).world = s.world := rfl

/-! `releaseData` -/

@[simp] theorem releaseData_cfg (s : State) : (releaseData s).cfg = s.cfg := rfl
@[simp] theorem releaseData_sampler (s : State) : (releaseData s).sampler = s.sampler := rfl
@[simp] theorem releaseData_display (s : State) : (releaseData s).display = s.display := rfl
@[simp] theorem releaseData_led (s : State) : (releaseData s).led = s.led := rfl
@[simp] theorem releaseData_stateUpdated (s : State) : (releaseData s).stateUpdated = s.stateUpdated := rfl
@[simp] theorem releaseData_press (s : State) : (releaseData s).press = s.press := rfl
@[simp] theorem releaseData_reply (s : State) : (releaseData s).reply = { s.reply with dataPin := .input } := rfl
@[simp] theorem releaseData_fg (s : State) : (releaseData s).fg = s.fg := rfl
@[simp] theorem releaseData_world (s : State) : (releaseData s).world = s.world := rfl

/-! `startReply` -/

@[simp] theorem startReply_cfg (b : Button) (s : State) : (startReply b s).cfg = s.cfg := rfl
@[simp] theorem startReply_sampler (b : Button) (s : State) : (startReply b s).sampler = s.sampler := rfl
@[simp] theorem startReply_display (b : Button) (s : State) : (startReply b s).display = s.display := rfl
@[simp] theorem startReply_led (b : Button) (s : State) : (startReply b s).led = s.led := rfl
@[simp] theorem startReply_stateUpdated (b : Button) (s : State) :
    (startReply b s).stateUpdated =
      s.stateUpdated := rfl
@[simp] theorem startReply_press (b : Button) (s : State) : (startReply b s).press = s.press := rfl
@[simp] theorem startReply_reply (b : Button) (s : State) :
    (startReply b s).reply =
      { s.reply with rpg := .armed (s.reply.latchLevel == .high) } := rfl
@[simp] theorem startReply_fg (b : Button) (s : State) : (startReply b s).fg = s.fg := rfl
@[simp] theorem startReply_world (b : Button) (s : State) :
    (startReply b s).world =
      { s.world with replies := s.world.replies ++ [⟨b, s.sampler.frameTotal⟩] } := rfl

/-! `answer` -/

@[simp] theorem answer_cfg (v : HostValue) (s : State) : (answer v s).cfg = s.cfg := rfl
@[simp] theorem answer_sampler (v : HostValue) (s : State) : (answer v s).sampler = s.sampler := rfl
@[simp] theorem answer_display (v : HostValue) (s : State) : (answer v s).display = s.display := rfl
@[simp] theorem answer_led (v : HostValue) (s : State) : (answer v s).led = s.led := rfl
@[simp] theorem answer_stateUpdated (v : HostValue) (s : State) : (answer v s).stateUpdated = s.stateUpdated := rfl
@[simp] theorem answer_press (v : HostValue) (s : State) : (answer v s).press = s.press := rfl
@[simp] theorem answer_reply (v : HostValue) (s : State) : (answer v s).reply = s.reply := rfl
@[simp] theorem answer_fg (v : HostValue) (s : State) : (answer v s).fg = s.fg := rfl
@[simp] theorem answer_world (v : HostValue) (s : State) :
    (answer v s).world =
      { s.world with result := some v } := rfl

/-! `finish` -/

@[simp] theorem finish_cfg (ok : Bool) (s : State) : (finish ok s).cfg = s.cfg := rfl
@[simp] theorem finish_sampler (ok : Bool) (s : State) : (finish ok s).sampler = s.sampler := rfl
@[simp] theorem finish_display (ok : Bool) (s : State) : (finish ok s).display = s.display := rfl
@[simp] theorem finish_led (ok : Bool) (s : State) : (finish ok s).led = s.led := rfl
@[simp] theorem finish_stateUpdated (ok : Bool) (s : State) : (finish ok s).stateUpdated = s.stateUpdated := rfl
@[simp] theorem finish_press (ok : Bool) (s : State) : (finish ok s).press = s.press := rfl
@[simp] theorem finish_reply (ok : Bool) (s : State) : (finish ok s).reply = s.reply := rfl
@[simp] theorem finish_fg (ok : Bool) (s : State) : (finish ok s).fg = { s.fg with cmd := .idle } := rfl
@[simp] theorem finish_world (ok : Bool) (s : State) :
    (finish ok s).world =
      { s.world with result := some (.bool ok) } := rfl

/-! `failTimeout` -/

@[simp] theorem failTimeout_cfg (s : State) : (failTimeout s).cfg = s.cfg := rfl
@[simp] theorem failTimeout_sampler (s : State) : (failTimeout s).sampler = s.sampler := rfl
@[simp] theorem failTimeout_display (s : State) : (failTimeout s).display = s.display := rfl
@[simp] theorem failTimeout_led (s : State) : (failTimeout s).led = s.led := rfl
@[simp] theorem failTimeout_stateUpdated (s : State) : (failTimeout s).stateUpdated = s.stateUpdated := rfl
@[simp] theorem failTimeout_press (s : State) : (failTimeout s).press = s.press := rfl
@[simp] theorem failTimeout_reply (s : State) : (failTimeout s).reply = s.reply := rfl
@[simp] theorem failTimeout_fg (s : State) : (failTimeout s).fg = { s.fg with cmd := .idle } := rfl
@[simp] theorem failTimeout_world (s : State) :
    (failTimeout s).world =
      { s.world with result := some (.bool false) } := rfl

/-! `goOn` -/

@[simp] theorem goOn_cfg (op : HostOp) (p : Point) (s : State) : (goOn op p s).cfg = s.cfg := rfl
@[simp] theorem goOn_sampler (op : HostOp) (p : Point) (s : State) : (goOn op p s).sampler = s.sampler := rfl
@[simp] theorem goOn_display (op : HostOp) (p : Point) (s : State) : (goOn op p s).display = s.display := rfl
@[simp] theorem goOn_led (op : HostOp) (p : Point) (s : State) : (goOn op p s).led = s.led := rfl
@[simp] theorem goOn_stateUpdated (op : HostOp) (p : Point) (s : State) :
    (goOn op p s).stateUpdated =
      s.stateUpdated := rfl
@[simp] theorem goOn_press (op : HostOp) (p : Point) (s : State) : (goOn op p s).press = s.press := rfl
@[simp] theorem goOn_reply (op : HostOp) (p : Point) (s : State) : (goOn op p s).reply = s.reply := rfl
@[simp] theorem goOn_fg (op : HostOp) (p : Point) (s : State) :
    (goOn op p s).fg =
      { s.fg with cmd := .busy op (.ready p) } := rfl
@[simp] theorem goOn_world (op : HostOp) (p : Point) (s : State) : (goOn op p s).world = s.world := rfl

/-! `waitThen` -/

@[simp] theorem waitThen_cfg (op : HostOp) (d : Nat) (p : Point) (s : State) : (waitThen op d p s).cfg = s.cfg := rfl
@[simp] theorem waitThen_sampler (op : HostOp) (d : Nat) (p : Point) (s : State) :
    (waitThen op d p s).sampler =
      s.sampler := rfl
@[simp] theorem waitThen_display (op : HostOp) (d : Nat) (p : Point) (s : State) :
    (waitThen op d p s).display =
      s.display := rfl
@[simp] theorem waitThen_led (op : HostOp) (d : Nat) (p : Point) (s : State) : (waitThen op d p s).led = s.led := rfl
@[simp] theorem waitThen_stateUpdated (op : HostOp) (d : Nat) (p : Point) (s : State) :
    (waitThen op d p s).stateUpdated =
      s.stateUpdated := rfl
@[simp] theorem waitThen_press (op : HostOp) (d : Nat) (p : Point) (s : State) :
    (waitThen op d p s).press =
      s.press := rfl
@[simp] theorem waitThen_reply (op : HostOp) (d : Nat) (p : Point) (s : State) :
    (waitThen op d p s).reply =
      s.reply := rfl
@[simp] theorem waitThen_fg (op : HostOp) (d : Nat) (p : Point) (s : State) :
    (waitThen op d p s).fg =
      { s.fg with cmd := .busy op (if d = 0 then .ready p else .waiting d p) } := rfl
@[simp] theorem waitThen_world (op : HostOp) (d : Nat) (p : Point) (s : State) :
    (waitThen op d p s).world =
      s.world := rfl

/-! `callPress` -/

@[simp] theorem callPress_cfg (op : HostOp) (b : Button) (n : Count) (k : Caller) (s : State) :
    (callPress op b n k s).cfg =
      s.cfg := rfl
@[simp] theorem callPress_sampler (op : HostOp) (b : Button) (n : Count) (k : Caller) (s : State) :
    (callPress op b n k s).sampler =
      s.sampler := rfl
@[simp] theorem callPress_display (op : HostOp) (b : Button) (n : Count) (k : Caller) (s : State) :
    (callPress op b n k s).display =
      s.display := rfl
@[simp] theorem callPress_led (op : HostOp) (b : Button) (n : Count) (k : Caller) (s : State) :
    (callPress op b n k s).led =
      s.led := rfl
@[simp] theorem callPress_stateUpdated (op : HostOp) (b : Button) (n : Count) (k : Caller) (s : State) :
    (callPress op b n k s).stateUpdated =
      s.stateUpdated := rfl
@[simp] theorem callPress_press (op : HostOp) (b : Button) (n : Count) (k : Caller) (s : State) :
    (callPress op b n k s).press =
      s.press := rfl
@[simp] theorem callPress_reply (op : HostOp) (b : Button) (n : Count) (k : Caller) (s : State) :
    (callPress op b n k s).reply =
      s.reply := rfl
@[simp] theorem callPress_fg (op : HostOp) (b : Button) (n : Count) (k : Caller) (s : State) :
    (callPress op b n k s).fg =
      { s.fg with cmd := .busy op (.ready (.pollQuiet b n s.cfg.buzzerWaitTries k)) } := rfl
@[simp] theorem callPress_world (op : HostOp) (b : Button) (n : Count) (k : Caller) (s : State) :
    (callPress op b n k s).world =
      s.world := rfl

/-! `waitReadback` -/

@[simp] theorem waitReadback_cfg (op : HostOp) (p : Nat → Point) (tries : Nat) (s : State) :
    (waitReadback op p tries s).cfg =
      s.cfg := rfl
@[simp] theorem waitReadback_sampler (op : HostOp) (p : Nat → Point) (tries : Nat) (s : State) :
    (waitReadback op p tries s).sampler =
      s.sampler := rfl
@[simp] theorem waitReadback_display (op : HostOp) (p : Nat → Point) (tries : Nat) (s : State) :
    (waitReadback op p tries s).display =
      s.display := rfl
@[simp] theorem waitReadback_led (op : HostOp) (p : Nat → Point) (tries : Nat) (s : State) :
    (waitReadback op p tries s).led =
      s.led := rfl
@[simp] theorem waitReadback_stateUpdated (op : HostOp) (p : Nat → Point) (tries : Nat) (s : State) :
    (waitReadback op p tries s).stateUpdated =
      s.stateUpdated := rfl
@[simp] theorem waitReadback_press (op : HostOp) (p : Nat → Point) (tries : Nat) (s : State) :
    (waitReadback op p tries s).press =
      s.press := rfl
@[simp] theorem waitReadback_reply (op : HostOp) (p : Nat → Point) (tries : Nat) (s : State) :
    (waitReadback op p tries s).reply =
      s.reply := rfl
@[simp] theorem waitReadback_fg (op : HostOp) (p : Nat → Point) (tries : Nat) (s : State) :
    (waitReadback op p tries s).fg =
      { s.fg with cmd := .busy op (if s.cfg.readbackPoll = 0 then .ready (p (tries - 1)) else .waiting s.cfg.readbackPoll (p (tries - 1))) } := rfl
@[simp] theorem waitReadback_world (op : HostOp) (p : Nat → Point) (tries : Nat) (s : State) :
    (waitReadback op p tries s).world =
      s.world := rfl

/-! `digitState` -/

@[simp] theorem digitState_cfg (k : Pos) (f : Frame) (s : State) : (digitState k f s).cfg = s.cfg := rfl
@[simp] theorem digitState_sampler (k : Pos) (f : Frame) (s : State) : (digitState k f s).sampler = s.sampler := rfl
@[simp] theorem digitState_display (k : Pos) (f : Frame) (s : State) :
    (digitState k f s).display =
      digitFrame s.cfg s.sampler.frameTotal k f s.display := rfl
@[simp] theorem digitState_led (k : Pos) (f : Frame) (s : State) : (digitState k f s).led = s.led := rfl
@[simp] theorem digitState_stateUpdated (k : Pos) (f : Frame) (s : State) :
    (digitState k f s).stateUpdated =
      s.stateUpdated := rfl
@[simp] theorem digitState_press (k : Pos) (f : Frame) (s : State) : (digitState k f s).press = s.press := rfl
@[simp] theorem digitState_reply (k : Pos) (f : Frame) (s : State) : (digitState k f s).reply = s.reply := rfl
@[simp] theorem digitState_fg (k : Pos) (f : Frame) (s : State) : (digitState k f s).fg = s.fg := rfl
@[simp] theorem digitState_world (k : Pos) (f : Frame) (s : State) : (digitState k f s).world = s.world := rfl

/-! `publishLed` -/

@[simp] theorem publishLed_cfg (f : Frame) (s : State) : (publishLed f s).cfg = s.cfg := rfl
@[simp] theorem publishLed_sampler (f : Frame) (s : State) : (publishLed f s).sampler = s.sampler := rfl
@[simp] theorem publishLed_display (f : Frame) (s : State) : (publishLed f s).display = s.display := rfl
@[simp] theorem publishLed_led (f : Frame) (s : State) :
    (publishLed f s).led =
      { s.led with cnt := s.cfg.confirmLed, pubLed := some f } := rfl
@[simp] theorem publishLed_stateUpdated (f : Frame) (s : State) : (publishLed f s).stateUpdated = true := rfl
@[simp] theorem publishLed_press (f : Frame) (s : State) :
    (publishLed f s).press =
      if buzzerOf s.cfg f then PressFile.zero else s.press := rfl
@[simp] theorem publishLed_reply (f : Frame) (s : State) : (publishLed f s).reply = s.reply := rfl
@[simp] theorem publishLed_fg (f : Frame) (s : State) : (publishLed f s).fg = s.fg := rfl
@[simp] theorem publishLed_world (f : Frame) (s : State) : (publishLed f s).world = s.world := rfl

/-! `ledChange` -/

@[simp] theorem ledChange_cfg (f : Frame) (s : State) : (ledChange f s).cfg = s.cfg := rfl
@[simp] theorem ledChange_sampler (f : Frame) (s : State) : (ledChange f s).sampler = s.sampler := rfl
@[simp] theorem ledChange_display (f : Frame) (s : State) : (ledChange f s).display = s.display := rfl
@[simp] theorem ledChange_led (f : Frame) (s : State) :
    (ledChange f s).led =
      { s.led with latest := some f, cnt := s.cfg.confirmLed } := rfl
@[simp] theorem ledChange_stateUpdated (f : Frame) (s : State) : (ledChange f s).stateUpdated = s.stateUpdated := rfl
@[simp] theorem ledChange_press (f : Frame) (s : State) : (ledChange f s).press = s.press := rfl
@[simp] theorem ledChange_reply (f : Frame) (s : State) : (ledChange f s).reply = s.reply := rfl
@[simp] theorem ledChange_fg (f : Frame) (s : State) : (ledChange f s).fg = s.fg := rfl
@[simp] theorem ledChange_world (f : Frame) (s : State) : (ledChange f s).world = s.world := rfl

end Sys2Proof.Machine
end

