-- ==== Sys2Proof/Laws/Ops.lean ====
section
/-! SUPPORT. For each shared operation, one lemma (or a few) that says everything it can do. -/

namespace Sys2Proof.Machine

/-! ## Outcomes -/

theorem next_inj {s t : State} (h : (Host.Outcome.next s : Result) = .next t) : s = t := by
  cases h; rfl

@[simp] theorem andThen_next (s : State) (k : State → Result) : andThen (.next s) k = k s := rfl

/-- A sequence answers a next state exactly when both parts do. -/
theorem andThen_eq_next {o : Result} {k : State → Result} {t : State} :
    andThen o k = .next t ↔ ∃ s, o = .next s ∧ k s = .next t := by
  cases o with
  | next s => exact ⟨fun h => ⟨s, rfl, h⟩, fun ⟨_, hs, h⟩ => by cases hs; exact h⟩
  | fault r => cases r
  | refused r => exact ⟨fun h => (by cases h), fun ⟨_, hs, _⟩ => (by cases hs)⟩

/-- A host operation that needs an idle foreground: it runs, or it is refused by the name of the running one. -/
theorem startCommand_eq (s : State) (run : State → State) :
    (s.fg.cmd = .idle ∧ startCommand s run = .next (run s)) ∨
      ∃ op pl, s.fg.cmd = .busy op pl ∧ startCommand s run = .refused (.hostBusy op) := by
  unfold startCommand
  cases h : s.fg.cmd with
  | idle => exact .inl ⟨rfl, rfl⟩
  | busy op pl => exact .inr ⟨op, pl, rfl, rfl⟩

theorem startCommand_idle {s : State} (h : s.fg.cmd = .idle) (run : State → State) :
    startCommand s run = .next (run s) := by
  unfold startCommand; rw [h]

theorem startCommand_busy {s : State} {op : HostOp} {pl : Place} (h : s.fg.cmd = .busy op pl)
    (run : State → State) : startCommand s run = .refused (.hostBusy op) := by
  unfold startCommand; rw [h]

/-- A started command answered: the foreground was idle, and the answer is the command's first action. -/
theorem startCommand_next {s t : State} {run : State → State} (h : startCommand s run = .next t) :
    s.fg.cmd = .idle ∧ t = run s := by
  rcases startCommand_eq s run with ⟨hi, h'⟩ | ⟨op, pl, _, h'⟩
  · exact ⟨hi, next_inj (h.symm.trans h')⟩
  · rw [h'] at h; cases h

/-- H.PRESS: refused for a button the variant lacks, refused for a press that no host operation makes, else the
well-formed press starts as every command does. -/
theorem execHPress_cases (b : Button) (n : Count) (s : State) :
    (s.cfg.buttons.contains b = false ∧ execHPress b n s = .refused (.buttonAbsent b)) ∨
    ((Instr.hPress b n).wellFormed s.cfg = false ∧ execHPress b n s = .refused (.pressNotMade b n)) ∨
    ((Instr.hPress b n).wellFormed s.cfg = true ∧ execHPress b n s =
      startCommand s fun s => act .press (.pollQuiet b n s.cfg.buzzerWaitTries .direct) s) := by
  unfold execHPress
  cases hb : s.cfg.buttons.contains b with
  | false => exact .inl ⟨rfl, rfl⟩
  | true =>
    have hw : (Instr.hPress b n).wellFormed s.cfg = (mayPress s.cfg b && armCount s.cfg n) := rfl
    cases h : mayPress s.cfg b && armCount s.cfg n with
    | false => exact .inr (.inl ⟨hw.trans h, rfl⟩)
    | true => exact .inr (.inr ⟨hw.trans h, rfl⟩)

/-- A press of a well-formed H.PRESS. -/
theorem execHPress_wellFormed {b : Button} {n : Count} {s : State} (h : (Instr.hPress b n).wellFormed s.cfg = true) :
    execHPress b n s = startCommand s fun s => act .press (.pollQuiet b n s.cfg.buzzerWaitTries .direct) s := by
  rcases execHPress_cases b n s with ⟨hb, _⟩ | ⟨hw, _⟩ | ⟨_, e⟩
  · have hb' : (Instr.hPress b n).wellFormed s.cfg = false := by
      simp only [Instr.wellFormed, hb, Bool.false_and]
    rw [hb'] at h; cases h
  · rw [hw] at h; cases h
  · exact e

/-! ## Counters -/

/-- The saturating successor as a number. -/
theorem satSucc_toNat (c : Count) : (satSucc c).toNat = min (c.toNat + 1) 255 := by
  unfold satSucc
  by_cases h : c = 255#8
  · subst h; decide
  · have hc : c.toNat ≠ 255 := fun e => h (BitVec.eq_of_toNat_eq (by simpa using e))
    have := c.isLt
    simp [h, BitVec.toNat_add]
    omega

theorem wrapFc_lt (c : Cfg) (n : Nat) : wrapFc c n < 2 ^ c.wFc :=
  Nat.mod_lt _ (Nat.two_pow_pos _)

/-- The age of counters that fit their width is the difference modulo the width. -/
theorem fcAge_of_lt {c : Cfg} {now last : Nat} (hn : now < 2 ^ c.wFc) (hl : last < 2 ^ c.wFc) :
    fcAge c now last = (now + 2 ^ c.wFc - last) % 2 ^ c.wFc := by
  unfold fcAge wrapFc
  rw [Nat.mod_eq_of_lt hn, Nat.mod_eq_of_lt hl]
  congr 1
  omega

/-- One less is zero exactly at one. -/
theorem count_pred_eq_zero (c : Count) : (c - 1#8 == 0#8) = decide (c = 1#8) := by
  by_cases h : c = 1#8
  · subst h; decide
  · have : c - 1#8 ≠ 0#8 := fun e => h (by bv_omega)
    simp [h, this]

/-! ## The press-counter file -/

@[simp] theorem PressFile.get_set_same (p : PressFile) (b : Button) (n : Count) : (p.set b n).get b = n := by
  cases b <;> rfl

theorem PressFile.get_set_other (p : PressFile) {b b' : Button} (n : Count) (h : b' ≠ b) :
    (p.set b n).get b' = p.get b' := by
  cases b <;> cases b' <;> first | rfl | exact absurd rfl h

@[simp] theorem PressFile.get_zero (b : Button) : PressFile.zero.get b = 0#8 := by
  cases b <;> rfl

/-! ## Error kinds -/

/-- Recording an error kind changes the online flag, the error latch or the frame counters, and nothing else. -/
theorem raise_eq (k : ErrorKind) (s : State) :
    raise k s = { s with
      sampler := (raise k s).sampler, display.errCode := (raise k s).display.errCode
      fg.online := (raise k s).fg.online } := by
  cases k <;> rfl

/-! ## The reply-pulse generator -/

/-- The forced release leaves RPG idle; when it was not idle, the data pin is released. -/
theorem forceRelease_eq (s : State) :
    forceRelease s = { s with
      reply.rpg := .idle
      reply.dataPin := if s.reply.rpg = .idle then s.reply.dataPin else .input } := by
  rcases s with ⟨_, _, _, _, _, _, ⟨r, _, _⟩, _, _⟩
  cases r <;> rfl

/-- What an edge does before the sampler step. -/
theorem edgeStart_eq (l : Level) (s : State) :
    edgeStart l s = { s with
      reply.rpg := .idle
      reply.dataPin := if s.reply.rpg = .idle then s.reply.dataPin else .input
      reply.latchLevel := l
      world.freeCount := s.world.freeCount + if s.reply.dataPin = .input then 0 else 1 } := by
  unfold edgeStart
  rw [forceRelease_eq]
  cases h : s.reply.dataPin <;> simp

@[simp] theorem edgeStart_cfg (l : Level) (s : State) : (edgeStart l s).cfg = s.cfg := by rw [edgeStart_eq]
@[simp] theorem edgeStart_sampler (l : Level) (s : State) : (edgeStart l s).sampler = s.sampler := by
  rw [edgeStart_eq]
@[simp] theorem edgeStart_display (l : Level) (s : State) : (edgeStart l s).display = s.display := by
  rw [edgeStart_eq]
@[simp] theorem edgeStart_led (l : Level) (s : State) : (edgeStart l s).led = s.led := by rw [edgeStart_eq]
@[simp] theorem edgeStart_stateUpdated (l : Level) (s : State) :
    (edgeStart l s).stateUpdated = s.stateUpdated := by rw [edgeStart_eq]
@[simp] theorem edgeStart_press (l : Level) (s : State) : (edgeStart l s).press = s.press := by rw [edgeStart_eq]
@[simp] theorem edgeStart_fg (l : Level) (s : State) : (edgeStart l s).fg = s.fg := by rw [edgeStart_eq]
@[simp] theorem edgeStart_rpg (l : Level) (s : State) : (edgeStart l s).reply.rpg = .idle := by rw [edgeStart_eq]
@[simp] theorem edgeStart_latchLevel (l : Level) (s : State) : (edgeStart l s).reply.latchLevel = l := by
  rw [edgeStart_eq]
@[simp] theorem edgeStart_nowMs (l : Level) (s : State) : (edgeStart l s).world.nowMs = s.world.nowMs := by
  rw [edgeStart_eq]
@[simp] theorem edgeStart_result (l : Level) (s : State) : (edgeStart l s).world.result = s.world.result := by
  rw [edgeStart_eq]
@[simp] theorem edgeStart_replies (l : Level) (s : State) : (edgeStart l s).world.replies = s.world.replies := by
  rw [edgeStart_eq]
@[simp] theorem edgeStart_inputs (l : Level) (s : State) : (edgeStart l s).world.inputs = s.world.inputs := by
  rw [edgeStart_eq]

/-- With the data pin an input, or exactly while RPG drives, the data pin is an input after the forced release. -/
theorem edgeStart_dataPin {s : State} (l : Level) (h : s.reply.Legal) : (edgeStart l s).reply.dataPin = .input := by
  rw [edgeStart_eq]
  by_cases hr : s.reply.rpg = .idle
  · have : s.reply.dataPin ≠ .drivenLow := fun e => by have := h.mp e; rw [hr] at this; cases this
    cases hd : s.reply.dataPin with
    | input => simp [hr]
    | drivenLow => exact absurd hd this
  · simp [hr]

/-- The latch line moves: only its level and an armed generator are concerned. -/
theorem latchMoves_eq (l : Level) (s : State) :
    latchMoves l s = { s with reply.latchLevel := l, reply.rpg := (latchMoves l s).reply.rpg } := rfl

/-- The latch line moves: an armed generator records a high level, an idle or driving one only lets the level be seen. -/
theorem latchMoves_cases (l : Level) (s : State) :
    (∃ seen, s.reply.rpg = .armed seen ∧
      latchMoves l s = { s with reply.latchLevel := l, reply.rpg := .armed (seen || decide (l = .high)) }) ∨
    ((∀ seen, s.reply.rpg ≠ .armed seen) ∧ latchMoves l s = { s with reply.latchLevel := l }) := by
  rcases s with ⟨_, _, _, _, _, _, ⟨r, _, _⟩, _, _⟩
  cases r with
  | idle => exact .inr ⟨nofun, rfl⟩
  | armed seen => exact .inl ⟨seen, rfl, by cases l <;> rfl⟩
  | drive => exact .inr ⟨nofun, rfl⟩

/-- The start of the pulse. -/
theorem replyStart_cases (s : State) :
    (s.reply.rpg = .armed true ∧ replyStart s = { s with reply.rpg := .drive, reply.dataPin := .drivenLow }) ∨
      (s.reply.rpg ≠ .armed true ∧ replyStart s = s) := by
  unfold replyStart
  split
  · rename_i h; exact .inl ⟨h, rfl⟩
  · rename_i h; exact .inr ⟨by rw [h]; nofun, rfl⟩
  · rename_i h; exact .inr ⟨by rw [h]; nofun, rfl⟩
  · rename_i h; exact .inr ⟨by rw [h]; nofun, rfl⟩

/-- The end of the pulse. -/
theorem replyEnd_cases (s : State) :
    (s.reply.rpg = .drive ∧ replyEnd s = { s with reply.rpg := .idle, reply.dataPin := .input }) ∨
      (s.reply.rpg ≠ .drive ∧ replyEnd s = s) := by
  unfold replyEnd
  split
  · rename_i h; exact .inl ⟨h, rfl⟩
  · rename_i h; exact .inr ⟨by rw [h]; nofun, rfl⟩
  · rename_i h; exact .inr ⟨by rw [h]; nofun, rfl⟩

/-! ## The foreground primitives -/

/-- A tick: a suspended command has one tick less to wait; without one nothing happens. -/
theorem tick_cases (s : State) :
    (∃ op d p, s.fg.cmd = .busy op (.waiting d p) ∧ tick s = waitThen op (d - 1) p s) ∨
      ((∀ op d p, s.fg.cmd ≠ .busy op (.waiting d p)) ∧ tick s = s) := by
  unfold tick
  split
  · rename_i op d p h; exact .inl ⟨op, d, p, h, rfl⟩
  · rename_i h; exact .inr ⟨fun _ _ _ e => (by rw [h] at e; cases e), rfl⟩
  · rename_i h; exact .inr ⟨fun _ _ _ e => (by rw [h] at e; cases e), rfl⟩

/-- The foreground's next action: that of the program point where a command is about to act, else none. -/
theorem fgAction_cases (s : State) :
    (∃ op p, s.fg.cmd = .busy op (.ready p) ∧ fgAction s = act op p s) ∨
      ((∀ op p, s.fg.cmd ≠ .busy op (.ready p)) ∧ fgAction s = s) := by
  unfold fgAction
  split
  · rename_i op p h; exact .inl ⟨op, p, h, rfl⟩
  · rename_i h; exact .inr ⟨fun _ _ e => (by rw [h] at e; cases e), rfl⟩
  · rename_i h; exact .inr ⟨fun _ _ e => (by rw [h] at e; cases e), rfl⟩

/-- The head of the loop of H.SET_TEMP: it ends, or it calls the next press. -/
theorem tempLoop_cases (target cur : Int) (presses : Nat) (s : State) :
    (cur = target ∧ tempLoop target cur presses s = finish true s) ∨
    (cur ≠ target ∧ presses = 0 ∧ tempLoop target cur presses s = failTimeout s) ∨
    (cur ≠ target ∧ presses ≠ 0 ∧ tempLoop target cur presses s =
      callPress .setTemp (stepButton target cur) s.cfg.pressShortCount
        (.tempStep target (presses - 1) (stepExpect target cur)) s) := by
  unfold tempLoop
  by_cases h1 : cur = target
  · exact .inl ⟨h1, if_pos h1⟩
  · by_cases h2 : presses = 0
    · exact .inr (.inl ⟨h1, h2, by rw [if_neg h1, if_pos h2]⟩)
    · exact .inr (.inr ⟨h1, h2, by rw [if_neg h1, if_neg h2]⟩)

/-- The head of the loop of H.SET_DISINF: it ends, or it calls the next press. -/
theorem disinfLoop_cases (target : Int) (cur : Option Int) (presses : Nat) (s : State) :
    (cur = some target ∧ disinfLoop target cur presses s = finish true s) ∨
    (cur ≠ some target ∧ presses = 0 ∧ disinfLoop target cur presses s = failTimeout s) ∨
    (cur ≠ some target ∧ presses ≠ 0 ∧ disinfLoop target cur presses s =
      callPress .setDisinf .disinf s.cfg.pressCount (.disinfStep target (presses - 1) cur) s) := by
  unfold disinfLoop
  by_cases h1 : cur = some target
  · exact .inl ⟨h1, if_pos h1⟩
  · by_cases h2 : presses = 0
    · exact .inr (.inl ⟨h1, h2, by rw [if_neg h1, if_pos h2]⟩)
    · exact .inr (.inr ⟨h1, h2, by rw [if_neg h1, if_neg h2]⟩)

/-- A toggle after its lamp has been read: the no-op, or the call of the press. -/
theorem toggle_cases (op : HostOp) (req : Bool) (cur : Option Bool) (b : Button) (s : State) :
    ((req = true ↔ cur = some true) ∧ toggle op req cur b s = finish true s) ∨
    (¬ (req = true ↔ cur = some true) ∧ toggle op req cur b s = callPress op b s.cfg.pressCount .direct s) := by
  unfold toggle
  cases req <;> rcases cur with _ | c <;> first
    | exact .inl ⟨by decide, rfl⟩
    | exact .inr ⟨by decide, rfl⟩
    | (cases c <;> first
        | exact .inl ⟨by decide, rfl⟩
        | exact .inr ⟨by decide, rfl⟩)

/-! ## Flags -/

/-- A lamp of the variant that has the bit `m`. -/
theorem readLamp_of_lamp {x : Lamp} {s : State} {m : Mask} (h : s.cfg.lamp x = some m) :
    readLamp x s = s.led.pubLed.map fun l => lampOf l m := by
  unfold readLamp; rw [h]; cases s.led.pubLed <;> rfl

/-- A lamp that the variant lacks reads UNDEF. -/
theorem readLamp_absent {x : Lamp} {s : State} (h : s.cfg.lamp x = none) : readLamp x s = none := by
  unfold readLamp; rw [h]; cases s.led.pubLed <;> rfl

/-- The buzzer is active when a lamp value is published and lacks the no-beep bit. -/
theorem buzzerActive_iff (s : State) :
    buzzerActive s = true ↔ ∃ l, s.led.pubLed = some l ∧ (l &&& s.cfg.lampNoBeep) = 0#16 := by
  unfold buzzerActive readBuzzer
  cases s.led.pubLed with
  | none => simp
  | some l => simp [buzzerOf, hits]

/-! ## Selection and dispatch -/

/-- The classifier's routing is `exec` of the decoded frame. -/
theorem dispatch_eq (f : Frame) (s : State) : dispatch f s = exec (decodeFrame s.cfg f) s := by
  unfold dispatch decodeFrame
  cases h : selectFrame s.cfg f with
  | digit k => cases k <;> rfl
  | button b => cases b <;> rfl
  | _ => rfl

/-- An echo: nothing with a zero counter, else one less and one reply. -/
theorem buttonEcho_cases (b : Button) (s : State) :
    (s.press.get b = 0#8 ∧ buttonEcho b s = s) ∨
      (s.press.get b ≠ 0#8 ∧ buttonEcho b s = startReply b (setPress b (s.press.get b - 1#8) s)) := by
  unfold buttonEcho
  by_cases h : s.press.get b = 0#8
  · exact .inl ⟨h, by simp [h]⟩
  · exact .inr ⟨h, by simp [h]⟩

/-- An LED frame: a change of the reference, a repeat that counts down, or a publish. -/
theorem execFLed_cases (f : Frame) (s : State) :
    (s.led.latest ≠ some f ∧ execFLed f s = .next (ledChange f s)) ∨
    (s.led.latest = some f ∧ s.led.cnt ≠ 1#8 ∧ execFLed f s = .next { s with led.cnt := s.led.cnt - 1#8 }) ∨
    (s.led.latest = some f ∧ s.led.cnt = 1#8 ∧ execFLed f s = .next (publishLed f s)) := by
  unfold execFLed ledRepeat
  by_cases h : s.led.latest = some f
  · by_cases hc : s.led.cnt = 1#8
    · exact .inr (.inr ⟨h, hc, by simp [h, hc]⟩)
    · have hne : s.led.cnt - 1#8 ≠ 0#8 := fun e => hc (by bv_omega)
      exact .inr (.inl ⟨h, hc, by simp [h, hne]⟩)
  · exact .inl ⟨h, by simp [h]⟩

/-- What a frame operation may change: display, LED and press registers, the pulse flag, RPG and its output. Every other
register keeps its value, and the operation always answers. -/
theorem dispatch_frame (f : Frame) (s : State) :
    ∃ d l u p r rs, dispatch f s = .next { s with
      display := d, led := l, stateUpdated := u, press := p, reply := r, world.replies := rs } := by
  have same : ∃ d l u p r rs, (Host.Outcome.next s : Result) = .next { s with
      display := d, led := l, stateUpdated := u, press := p, reply := r, world.replies := rs } :=
    ⟨s.display, s.led, s.stateUpdated, s.press, s.reply, s.world.replies, rfl⟩
  have echo : ∀ b, ∃ d l u p r rs, (Host.Outcome.next (buttonEcho b s) : Result) = .next { s with
      display := d, led := l, stateUpdated := u, press := p, reply := r, world.replies := rs } := fun b => by
    rcases buttonEcho_cases b s with ⟨_, h⟩ | ⟨_, h⟩
    · rw [h]; exact same
    · rw [h]; exact ⟨_, _, _, _, _, _, rfl⟩
  unfold dispatch
  cases selectFrame s.cfg f with
  | digit k => cases k <;> exact ⟨_, s.led, s.stateUpdated, s.press, s.reply, s.world.replies, rfl⟩
  | button b => cases b <;> exact echo _
  | led =>
    rcases execFLed_cases f s with ⟨_, h⟩ | ⟨_, _, h⟩ | ⟨_, _, h⟩ <;> simp only [h]
    · exact ⟨s.display, _, s.stateUpdated, s.press, s.reply, s.world.replies, rfl⟩
    · exact ⟨s.display, _, s.stateUpdated, s.press, s.reply, s.world.replies, rfl⟩
    · exact ⟨s.display, _, _, _, s.reply, s.world.replies, rfl⟩
  | _ => exact same

/-- The reply side of a frame operation: untouched, or armed by one echo. -/
theorem dispatch_reply {f : Frame} {s t : State} (h : dispatch f s = .next t) :
    (t.reply = s.reply ∧ t.world = s.world) ∨
      (t.reply = { s.reply with rpg := .armed (s.reply.latchLevel == .high) } ∧
        ∃ b, t.world = { s.world with replies := s.world.replies ++ [⟨b, s.sampler.frameTotal⟩] }) := by
  have echo : ∀ b, (Host.Outcome.next (buttonEcho b s) : Result) = .next t →
      (t.reply = s.reply ∧ t.world = s.world) ∨
      (t.reply = { s.reply with rpg := .armed (s.reply.latchLevel == .high) } ∧
        ∃ b, t.world = { s.world with replies := s.world.replies ++ [⟨b, s.sampler.frameTotal⟩] }) := by
    intro b h
    have := next_inj h; subst this
    rcases buttonEcho_cases b s with ⟨_, e⟩ | ⟨_, e⟩ <;> rw [e]
    · exact .inl ⟨rfl, rfl⟩
    · exact .inr ⟨rfl, b, rfl⟩
  unfold dispatch at h
  revert h
  cases selectFrame s.cfg f with
  | digit k => cases k <;> (intro h; have := next_inj h; subst this; exact .inl ⟨rfl, rfl⟩)
  | button b => cases b <;> exact echo _
  | led =>
    intro h
    replace h : execFLed f s = _ := h
    rcases execFLed_cases f s with ⟨_, e⟩ | ⟨_, _, e⟩ | ⟨_, _, e⟩ <;>
      (rw [e] at h; have := next_inj h; subst this; exact .inl ⟨rfl, rfl⟩)
  | _ => intro h; have := next_inj h; subst this; exact .inl ⟨rfl, rfl⟩

end Sys2Proof.Machine
end

