-- ==== Sys2Proof/Laws/Display.lean ====
section
/-! SUPPORT. The functions of the Display Decoder, each with the cases of what it can do. -/

namespace Sys2Proof.Machine

theorem count_pred_ne_zero {c : Count} (h : c ≠ 1#8) : c - 1#8 ≠ 0#8 := fun e => h (by bv_omega)

/-- `is_temp` (R91), as propositions. -/
theorem isTemp_iff (c : Cfg) (v : Composite) :
    isTemp c v = true ↔ v.c1 ≠ c.errorMarker ∧ (v.c4 = c.unitC ∨ v.c4 = c.unitF) := by
  simp [isTemp, isError]

/-- The publish condition of a blank acceptance, as propositions. -/
theorem desiredReady_iff (c : Cfg) (count : Count) (d : Display) :
    desiredReady c count d = true ↔
      c.blinkMinCycles ≤ count.toNat ∧ d.blinkPending ≠ none ∧ c.blinkTempFrames ≤ d.blinkStab.toNat ∧
        d.errCode = none ∧ d.blinkPending ≠ d.pubDesired := by
  unfold desiredReady
  cases hp : d.blinkPending <;> cases he : d.errCode <;> simp [and_assoc]

/-- An accepted blank starts an episode, or counts a blink with or without a publish. -/
theorem blankAccepted_cases (c : Cfg) (d : Display) :
    (d.blinking = false ∧ blankAccepted c d =
      { d with blinking := true, blinkCount := 0#8, blinkPending := none, blinkStab := 0#8 }) ∨
    (d.blinking = true ∧ desiredReady c (satSucc d.blinkCount) d = true ∧ blankAccepted c d =
      { d with blinkCount := satSucc d.blinkCount, pubDesired := d.blinkPending, blinkPending := none
               blinkStab := 0#8 }) ∨
    (d.blinking = true ∧ desiredReady c (satSucc d.blinkCount) d = false ∧ blankAccepted c d =
      { d with blinkCount := satSucc d.blinkCount, blinkPending := none, blinkStab := 0#8 }) := by
  unfold blankAccepted
  cases hb : d.blinking with
  | false => exact .inl ⟨rfl, by simp⟩
  | true =>
    cases hr : desiredReady c (satSucc d.blinkCount) d with
    | true => exact .inr (.inl ⟨rfl, rfl, by simp [hr]⟩)
    | false => exact .inr (.inr ⟨rfl, rfl, by simp [hr]⟩)

/-- A confirmed blank refreshes the origin of the ages, counts the debounce down, or is accepted. -/
theorem confirmedBlank_cases (c : Cfg) (fc : Nat) (d : Display) :
    (d.blankCnt = 0#8 ∧ confirmedBlank c fc d = { d with lastBlankFc := fc }) ∨
    (d.blankCnt ≠ 0#8 ∧ d.blankCnt ≠ 1#8 ∧ confirmedBlank c fc d = { d with blankCnt := d.blankCnt - 1#8 }) ∨
    (d.blankCnt = 1#8 ∧ confirmedBlank c fc d = blankAccepted c { d with blankCnt := 0#8, lastBlankFc := fc }) := by
  unfold confirmedBlank
  by_cases h0 : d.blankCnt = 0#8
  · refine .inl ⟨h0, ?_⟩
    simp [h0]
  · by_cases h1 : d.blankCnt = 1#8
    · exact .inr (.inr ⟨h1, by simp [h1]⟩)
    · exact .inr (.inl ⟨h0, h1, by simp [h0, count_pred_ne_zero h1]⟩)

/-- A confirmed temperature in an open episode. -/
theorem tempBlinking_cases (c : Cfg) (v : Composite) (age : Nat) (d : Display) :
    (d.blinkPending = some v ∧ tempBlinking c v age d = { d with blinkStab := satSucc d.blinkStab }) ∨
    (d.blinkPending ≠ some v ∧ age ≤ c.blinkUpdateWindow ∧
      tempBlinking c v age d = { d with blinkPending := some v, blinkStab := 0#8 }) ∨
    (d.blinkPending ≠ some v ∧ ¬ age ≤ c.blinkUpdateWindow ∧ tempBlinking c v age d = d) := by
  unfold tempBlinking
  by_cases h : d.blinkPending = some v
  · exact .inl ⟨h, by simp [h]⟩
  · by_cases ha : age ≤ c.blinkUpdateWindow
    · exact .inr (.inl ⟨h, ha, by simp [h, ha]⟩)
    · exact .inr (.inr ⟨h, ha, by simp [h, ha]⟩)

/-- A confirmed temperature outside an episode. -/
theorem tempSteady_cases (c : Cfg) (v : Composite) (d : Display) :
    (d.actualCand = some v ∧ d.actualCnt = 1#8 ∧
      tempSteady c v d = { d with pubActual := some v, actualCnt := c.confirmActual }) ∨
    (d.actualCand = some v ∧ d.actualCnt ≠ 1#8 ∧ tempSteady c v d = { d with actualCnt := d.actualCnt - 1#8 }) ∨
    (d.actualCand ≠ some v ∧ tempSteady c v d = { d with actualCand := some v, actualCnt := c.confirmActual }) := by
  unfold tempSteady
  by_cases h : d.actualCand = some v
  · by_cases h1 : d.actualCnt = 1#8
    · exact .inl ⟨h, h1, by simp [h, h1]⟩
    · exact .inr (.inl ⟨h, h1, by simp [h, count_pred_ne_zero h1]⟩)
  · exact .inr (.inr ⟨h, by simp [h]⟩)

/-- The kinds of a confirmed non-blank composite. -/
theorem handleValue_cases (c : Cfg) (v : Composite) (age : Nat) (d : Display) :
    (isError c v = true ∧ handleValue c v age d = { d with errCode := some (errorCodeOf v) }) ∨
    (isTemp c v = true ∧ d.blinking = true ∧ handleValue c v age d = tempBlinking c v age d) ∨
    (isTemp c v = true ∧ d.blinking = false ∧ handleValue c v age d = tempSteady c v d) ∨
    (isError c v = false ∧ isTemp c v = false ∧ isDuration c v = true ∧
      handleValue c v age d = { d with pubDuration := some v }) ∨
    (isError c v = false ∧ isTemp c v = false ∧ isDuration c v = false ∧ handleValue c v age d = d) := by
  unfold handleValue
  cases he : isError c v with
  | true => exact .inl ⟨rfl, by simp [latchError, Display.record]⟩
  | false =>
    cases ht : isTemp c v with
    | true =>
      cases hb : d.blinking with
      | true => exact .inr (.inl ⟨rfl, rfl, by simp⟩)
      | false => exact .inr (.inr (.inl ⟨rfl, rfl, by simp⟩))
    | false =>
      cases hd : isDuration c v with
      | true => exact .inr (.inr (.inr (.inl ⟨rfl, rfl, rfl, by simp [publishDuration]⟩)))
      | false => exact .inr (.inr (.inr (.inr ⟨rfl, rfl, rfl, by simp⟩)))

/-- What a confirmed composite can change: neither the place in the pass nor the reference nor the stable counter. -/
theorem confirmed_frame (c : Cfg) (fc : Nat) (v : Composite) (d : Display) :
    (confirmed c fc v d).dpos = d.dpos ∧ (confirmed c fc v d).comp = d.comp ∧
      (confirmed c fc v d).latest = d.latest ∧ (confirmed c fc v d).stableCnt = d.stableCnt := by
  have hv : ∀ age d', d'.dpos = d.dpos → d'.comp = d.comp → d'.latest = d.latest → d'.stableCnt = d.stableCnt →
      (handleValue c v age d').dpos = d.dpos ∧ (handleValue c v age d').comp = d.comp ∧
      (handleValue c v age d').latest = d.latest ∧ (handleValue c v age d').stableCnt = d.stableCnt := by
    intro age d' h1 h2 h3 h4
    rcases handleValue_cases c v age d' with ⟨_, e⟩ | ⟨_, _, e⟩ | ⟨_, _, e⟩ | ⟨_, _, _, e⟩ | ⟨_, _, _, e⟩ <;> rw [e]
    · exact ⟨h1, h2, h3, h4⟩
    · rcases tempBlinking_cases c v age d' with ⟨_, e⟩ | ⟨_, _, e⟩ | ⟨_, _, e⟩ <;> rw [e] <;> exact ⟨h1, h2, h3, h4⟩
    · rcases tempSteady_cases c v d' with ⟨_, _, e⟩ | ⟨_, _, e⟩ | ⟨_, e⟩ <;> rw [e] <;> exact ⟨h1, h2, h3, h4⟩
    · exact ⟨h1, h2, h3, h4⟩
    · exact ⟨h1, h2, h3, h4⟩
  unfold confirmed
  cases isBlank v with
  | true =>
    simp only [if_true]
    rcases confirmedBlank_cases c fc d with ⟨_, e⟩ | ⟨_, _, e⟩ | ⟨_, e⟩ <;> rw [e]
    · exact ⟨rfl, rfl, rfl, rfl⟩
    · exact ⟨rfl, rfl, rfl, rfl⟩
    · rcases blankAccepted_cases c { d with blankCnt := 0#8, lastBlankFc := fc } with ⟨_, e⟩ | ⟨_, _, e⟩ | ⟨_, _, e⟩ <;>
        rw [e] <;> exact ⟨rfl, rfl, rfl, rfl⟩
  | false =>
    simp only [Bool.false_eq_true, if_false]
    unfold confirmedValue
    apply hv <;> (split <;> rfl)

/-- A completed composite becomes the reference, counts down, or is confirmed. -/
theorem processComposite_cases (c : Cfg) (fc : Nat) (v : Composite) (d : Display) :
    (d.latest ≠ some v ∧ processComposite c fc v d =
      { d with latest := some v, stableCnt := c.confirmDisp, blankCnt := c.confirmBlank }) ∨
    (d.latest = some v ∧ d.stableCnt ≠ 1#8 ∧ processComposite c fc v d = { d with stableCnt := d.stableCnt - 1#8 }) ∨
    (d.latest = some v ∧ d.stableCnt = 1#8 ∧
      processComposite c fc v d = confirmed c fc v { d with stableCnt := c.confirmDisp }) := by
  unfold processComposite
  by_cases h : d.latest = some v
  · by_cases h1 : d.stableCnt = 1#8
    · exact .inr (.inr ⟨h, h1, by simp [h, h1]⟩)
    · exact .inr (.inl ⟨h, h1, by simp [h, count_pred_ne_zero h1]⟩)
  · exact .inl ⟨h, by simp [h]⟩

/-- A DIGIT frame: without effect, a character stored, or a composite completed. -/
theorem digitFrame_cases (c : Cfg) (fc : Nat) (k : Pos) (f : Frame) (d : Display) :
    ((frameGlyph c f = none ∨ d.dpos ≠ awaits k) ∧ digitFrame c fc k f d = d) ∨
    (∃ ch, frameGlyph c f = some ch ∧ d.dpos = awaits k ∧ k ≠ .p4 ∧
      digitFrame c fc k f d = { d with comp := setChar d.comp k ch, dpos := nextAwait k }) ∨
    (∃ ch, frameGlyph c f = some ch ∧ d.dpos = .aw4 ∧ k = .p4 ∧
      digitFrame c fc k f d = processComposite c fc { d.comp with c4 := ch }
        { d with comp := { d.comp with c4 := ch }, dpos := .aw1 }) := by
  unfold digitFrame
  cases hg : frameGlyph c f with
  | none => exact .inl ⟨.inl rfl, rfl⟩
  | some ch =>
    by_cases hd : d.dpos = awaits k
    · cases k with
      | p4 => exact .inr (.inr ⟨ch, rfl, hd, rfl, by simp [hd, acceptChar, setChar, nextAwait]⟩)
      | p1 => exact .inr (.inl ⟨ch, rfl, hd, by decide, by simp [hd, acceptChar]⟩)
      | p2 => exact .inr (.inl ⟨ch, rfl, hd, by decide, by simp [hd, acceptChar]⟩)
      | p3 => exact .inr (.inl ⟨ch, rfl, hd, by decide, by simp [hd, acceptChar]⟩)
    · exact .inl ⟨.inr hd, by simp [hd]⟩

/-- The four DIGIT operations are one function of the position. -/
theorem exec_digit (k : Pos) (f : Frame) (s : State) : exec (Instr.digit k f) s = .next (digitState k f s) := by
  cases k <;> rfl

/-- The button operations are one function of the button. -/
theorem exec_button (b : Button) (f : Frame) (s : State) : exec (Instr.button b f) s = .next (buttonEcho b s) := by
  cases b <;> rfl

end Sys2Proof.Machine
end

