-- ==== Sys2Proof/Laws/Events.lean ====
section
/-! SUPPORT. What one step, one clock edge and one host call can do. -/

namespace Sys2Proof.Machine

/-- A step runs the next input, or has none and changes nothing. -/
theorem step_cases (s : State) :
    (s.world.inputs = [] ∧ step s = .next s) ∨
      ∃ e rest, s.world.inputs = e :: rest ∧ step s = runEvent e { s with world.inputs := rest } := by
  unfold step takeInput
  cases h : s.world.inputs with
  | nil => exact .inl ⟨rfl, rfl⟩
  | cons e rest => exact .inr ⟨e, rest, rfl, rfl⟩

/-- S.COMPLETE: the frame is counted, its operation runs, the boundary follows. -/
theorem execSComplete_next {s t : State} (h : execSComplete s = .next t) :
    ∃ u, dispatch s.sampler.sr (countTotal s) = .next u ∧ t = frameBoundary u := by
  obtain ⟨u, h1, h2⟩ := andThen_eq_next.mp h
  exact ⟨u, h1, (next_inj h2).symm⟩

/-- Every sampler operation is one of four. -/
theorem decodeEdge_cases (en bit : Bool) (n : BitVec 5) :
    (decodeEdge en bit n = .sComplete ∧ n = 16#5) ∨ decodeEdge en bit n = .sShift bit ∨
      decodeEdge en bit n = .sDrop ∨ decodeEdge en bit n = .sIdle := by
  unfold decodeEdge
  by_cases h : n = 16#5
  · exact .inl ⟨by simp [h], h⟩
  · refine .inr ?_
    simp only [beq_eq_false_iff_ne.mpr h, Bool.false_eq_true, if_false]
    split
    · exact .inl rfl
    · split
      · exact .inr (.inl rfl)
      · exact .inr (.inr rfl)

/-- A clock edge: after the forced release, a shift, a drop or nothing, and a completion exactly at the sixteenth bit. -/
theorem clockEdge_cases {d l : Level} {s t : State} (h : clockEdge d l s = .next t) :
    ∃ s1, (s1 = edgeStart l s ∨
        (∃ sr, s1 = { edgeStart l s with
          sampler.sr := sr, sampler.nbits := (edgeStart l s).sampler.nbits + 1#5 }) ∨
        s1 = raise .framingAnomaly (frameBoundary (edgeStart l s))) ∧
      ((t = s1 ∧ s1.sampler.nbits ≠ 16#5) ∨ (s1.sampler.nbits = 16#5 ∧ execSComplete s1 = .next t)) := by
  obtain ⟨s1, h1, h2⟩ := andThen_eq_next.mp h
  have tail : (t = s1 ∧ s1.sampler.nbits ≠ 16#5) ∨
      (s1.sampler.nbits = 16#5 ∧ execSComplete s1 = .next t) := by
    by_cases hn : s1.sampler.nbits = 16#5
    · refine .inr ?_
      simp only [hn, beq_self_eq_true, if_true] at h2
      exact ⟨hn, h2⟩
    · refine .inl ⟨(next_inj ?_).symm, hn⟩
      simpa only [beq_eq_false_iff_ne.mpr hn, Bool.false_eq_true, if_false] using h2
  rcases decodeEdge_cases (sampleEnable l) (sampleBit d s) (edgeStart l s).sampler.nbits with
    ⟨e, h16⟩ | e | e | e <;> rw [e] at h1
  · refine ⟨edgeStart l s, .inl rfl, .inr ⟨h16, ?_⟩⟩
    rcases tail with ⟨ht, _⟩ | ⟨_, hc⟩
    · rw [ht]; exact h1
    · obtain ⟨u, hu, hv⟩ := execSComplete_next h1
      have : s1.sampler.nbits = 0#5 := by rw [hv]; rfl
      rw [this] at h2
      rw [← next_inj h2]; exact h1
  · have := next_inj h1; subst this
    exact ⟨_, .inr (.inl ⟨_, rfl⟩), tail⟩
  · have := next_inj h1; subst this
    exact ⟨_, .inr (.inr rfl), tail⟩
  · have := next_inj h1; subst this
    exact ⟨_, .inl rfl, tail⟩

/-- A host call that answers runs the operation of its name. -/
theorem hostCall_next {c : HostCall} {s t : State} (h : hostCall c s = .next t) :
    ∃ i, decodeCall c = .ok i ∧ exec i s = .next t := by
  unfold hostCall at h
  cases hd : decodeCall c with
  | ok i => rw [hd] at h; exact ⟨i, rfl, h⟩
  | error e => rw [hd] at h; cases h

/-- The host operations: no sampler operation and no frame operation has a name HOST can call. -/
def IsHost : Instr → Prop
  | .hPress _ _ | .hSetPower _ | .hSetFilter _ | .hSetBubble _ | .hSetHeater _ | .hSetJet _ | .hSetTemp _
  | .hSetDisinf _ | .hLiveness | .hGetOnline | .hGetFramesTotal | .hGetFramesDropped | .hGetPower | .hGetFilter
  | .hGetBubble | .hGetHeaterOn | .hGetHeaterStandby | .hGetBuzzer | .hGetJet | .hGetDisinf | .hGetLedRaw
  | .hGetActualC | .hGetDesiredC | .hGetDurationH | .hGetError => True
  | .sShift _ | .sComplete | .sDrop | .sIdle | .fCue | .fDigitP1 _ | .fDigitP2 _ | .fDigitP3 _ | .fDigitP4 _
  | .fLed _ | .fBtnPower _ | .fBtnFilter _ | .fBtnHeater _ | .fBtnBubble _ | .fBtnTempUp _ | .fBtnTempDown _
  | .fBtnTempUnit _ | .fBtnJet _ | .fBtnDisinf _ | .fBtnNone _ | .fZero | .fUnknown _ => False

theorem nullary_isHost {c : HostCall} {i j : Instr} (hj : IsHost j) (h : nullary c j = .ok i) : IsHost i := by
  unfold nullary at h; split at h <;> cases h; exact hj

theorem unaryBool_isHost {c : HostCall} {i : Instr} {j : Bool → Instr} (hj : ∀ b, IsHost (j b))
    (h : unaryBool c j = .ok i) : IsHost i := by
  unfold unaryBool at h; split at h <;> cases h; exact hj _

theorem unaryInt_isHost {c : HostCall} {i : Instr} {j : Int → Instr} (hj : ∀ b, IsHost (j b))
    (h : unaryInt c j = .ok i) : IsHost i := by
  unfold unaryInt at h; split at h <;> cases h; exact hj _

/-- A name selects a host operation only. -/
theorem decodeCall_isHost {c : HostCall} {i : Instr} (h : decodeCall c = .ok i) : IsHost i := by
  unfold decodeCall at h
  split at h
  case h_1 => unfold pressCall at h; split at h <;> cases h; trivial
  all_goals first
    | (refine nullary_isHost ?_ h; trivial)
    | (refine unaryBool_isHost ?_ h; intro; trivial)
    | (refine unaryInt_isHost ?_ h; intro; trivial)
    | cases h

end Sys2Proof.Machine
end

