-- ==== Sys2Proof/Laws/PerInstr.lean ====
section
/-! SUPPORT. The family `Selector`: one lemma per constructor of `Instr`. -/

namespace Sys2Proof.Laws.Selector

/-- The code of an operation holds every operand: a sampler operation's edge decodes to it (R110), a frame operation
is the frame operation of its own frame value (R82), a host operation's call decodes to it (R62). -/
def Statement (i : Instr) : Prop :=
  ∀ c : Cfg,
    (∃ en bit n, encode c i = .edge en bit n ∧ decodeEdge en bit n = i) ∨
    (∃ (f : Frame) (op : FrameOp), encode c i = .frame f ∧ op.instr f = i) ∨
    (∃ h, encode c i = .call h ∧ decodeCall h = .ok i)

theorem sShift (bit : Bool) : Statement (.sShift bit) := fun _ => .inl ⟨_, _, _, rfl, by cases bit <;> rfl⟩
theorem sComplete : Statement .sComplete := fun _ => .inl ⟨_, _, _, rfl, rfl⟩
theorem sDrop : Statement .sDrop := fun _ => .inl ⟨_, _, _, rfl, rfl⟩
theorem sIdle : Statement .sIdle := fun _ => .inl ⟨_, _, _, rfl, rfl⟩
theorem fCue : Statement .fCue := fun c => .inr (.inl ⟨c.cue, .cue, rfl, rfl⟩)
theorem fDigitP1 (f : Frame) : Statement (.fDigitP1 f) := fun _ => .inr (.inl ⟨f, .digit .p1, rfl, rfl⟩)
theorem fDigitP2 (f : Frame) : Statement (.fDigitP2 f) := fun _ => .inr (.inl ⟨f, .digit .p2, rfl, rfl⟩)
theorem fDigitP3 (f : Frame) : Statement (.fDigitP3 f) := fun _ => .inr (.inl ⟨f, .digit .p3, rfl, rfl⟩)
theorem fDigitP4 (f : Frame) : Statement (.fDigitP4 f) := fun _ => .inr (.inl ⟨f, .digit .p4, rfl, rfl⟩)
theorem fLed (f : Frame) : Statement (.fLed f) := fun _ => .inr (.inl ⟨f, .led, rfl, rfl⟩)
theorem fBtnPower (f : Frame) : Statement (.fBtnPower f) := fun _ => .inr (.inl ⟨f, .button .power, rfl, rfl⟩)
theorem fBtnFilter (f : Frame) : Statement (.fBtnFilter f) := fun _ => .inr (.inl ⟨f, .button .filter, rfl, rfl⟩)
theorem fBtnHeater (f : Frame) : Statement (.fBtnHeater f) := fun _ => .inr (.inl ⟨f, .button .heater, rfl, rfl⟩)
theorem fBtnBubble (f : Frame) : Statement (.fBtnBubble f) := fun _ => .inr (.inl ⟨f, .button .bubble, rfl, rfl⟩)
theorem fBtnTempUp (f : Frame) : Statement (.fBtnTempUp f) := fun _ => .inr (.inl ⟨f, .button .tempUp, rfl, rfl⟩)
theorem fBtnTempDown (f : Frame) : Statement (.fBtnTempDown f) :=
  fun _ => .inr (.inl ⟨f, .button .tempDown, rfl, rfl⟩)
theorem fBtnTempUnit (f : Frame) : Statement (.fBtnTempUnit f) :=
  fun _ => .inr (.inl ⟨f, .button .tempUnit, rfl, rfl⟩)
theorem fBtnJet (f : Frame) : Statement (.fBtnJet f) := fun _ => .inr (.inl ⟨f, .button .jet, rfl, rfl⟩)
theorem fBtnDisinf (f : Frame) : Statement (.fBtnDisinf f) := fun _ => .inr (.inl ⟨f, .button .disinf, rfl, rfl⟩)
theorem fBtnNone (f : Frame) : Statement (.fBtnNone f) := fun _ => .inr (.inl ⟨f, .buttonNone, rfl, rfl⟩)
theorem fZero : Statement .fZero := fun _ => .inr (.inl ⟨0#16, .zero, rfl, rfl⟩)
theorem fUnknown (f : Frame) : Statement (.fUnknown f) := fun _ => .inr (.inl ⟨f, .unknown, rfl, rfl⟩)
theorem hPress (b : Button) (n : Count) : Statement (.hPress b n) := fun _ => .inr (.inr ⟨_, rfl, rfl⟩)
theorem hSetPower (req : Bool) : Statement (.hSetPower req) := fun _ => .inr (.inr ⟨_, rfl, rfl⟩)
theorem hSetFilter (req : Bool) : Statement (.hSetFilter req) := fun _ => .inr (.inr ⟨_, rfl, rfl⟩)
theorem hSetBubble (req : Bool) : Statement (.hSetBubble req) := fun _ => .inr (.inr ⟨_, rfl, rfl⟩)
theorem hSetHeater (req : Bool) : Statement (.hSetHeater req) := fun _ => .inr (.inr ⟨_, rfl, rfl⟩)
theorem hSetJet (req : Bool) : Statement (.hSetJet req) := fun _ => .inr (.inr ⟨_, rfl, rfl⟩)
theorem hSetTemp (t : Int) : Statement (.hSetTemp t) := fun _ => .inr (.inr ⟨_, rfl, rfl⟩)
theorem hSetDisinf (h : Int) : Statement (.hSetDisinf h) := fun _ => .inr (.inr ⟨_, rfl, rfl⟩)
theorem hLiveness : Statement .hLiveness := fun _ => .inr (.inr ⟨_, rfl, rfl⟩)
theorem hGetOnline : Statement .hGetOnline := fun _ => .inr (.inr ⟨_, rfl, rfl⟩)
theorem hGetFramesTotal : Statement .hGetFramesTotal := fun _ => .inr (.inr ⟨_, rfl, rfl⟩)
theorem hGetFramesDropped : Statement .hGetFramesDropped := fun _ => .inr (.inr ⟨_, rfl, rfl⟩)
theorem hGetPower : Statement .hGetPower := fun _ => .inr (.inr ⟨_, rfl, rfl⟩)
theorem hGetFilter : Statement .hGetFilter := fun _ => .inr (.inr ⟨_, rfl, rfl⟩)
theorem hGetBubble : Statement .hGetBubble := fun _ => .inr (.inr ⟨_, rfl, rfl⟩)
theorem hGetHeaterOn : Statement .hGetHeaterOn := fun _ => .inr (.inr ⟨_, rfl, rfl⟩)
theorem hGetHeaterStandby : Statement .hGetHeaterStandby := fun _ => .inr (.inr ⟨_, rfl, rfl⟩)
theorem hGetBuzzer : Statement .hGetBuzzer := fun _ => .inr (.inr ⟨_, rfl, rfl⟩)
theorem hGetJet : Statement .hGetJet := fun _ => .inr (.inr ⟨_, rfl, rfl⟩)
theorem hGetDisinf : Statement .hGetDisinf := fun _ => .inr (.inr ⟨_, rfl, rfl⟩)
theorem hGetLedRaw : Statement .hGetLedRaw := fun _ => .inr (.inr ⟨_, rfl, rfl⟩)
theorem hGetActualC : Statement .hGetActualC := fun _ => .inr (.inr ⟨_, rfl, rfl⟩)
theorem hGetDesiredC : Statement .hGetDesiredC := fun _ => .inr (.inr ⟨_, rfl, rfl⟩)
theorem hGetDurationH : Statement .hGetDurationH := fun _ => .inr (.inr ⟨_, rfl, rfl⟩)
theorem hGetError : Statement .hGetError := fun _ => .inr (.inr ⟨_, rfl, rfl⟩)

end Sys2Proof.Laws.Selector
end

