-- ==== Sys2Proof/Tests/Slice0.lean ====
section
/-! SUPPORT. The author's own tests, on values of spec/95_test_vectors.md and of the rules' examples, and a witness for the
hypotheses of each statement of Sys2Proof/Certificates/Slice0/Obligations.lean. -/

namespace Sys2Proof.Tests

open Sys2Proof Sys2Proof.Machine Sys2Proof.Claims

/-- One field of the next state. -/
def field {α : Type} (o : Result) (f : State → α) : Option α :=
  match o with
  | .next s => some (f s)
  | .fault _ => none
  | .refused _ => none

/-- A fresh instance with `CFG_REF7`. -/
def s7 : State := State.fresh Cfg.ref7 0#32

/-- A fresh instance with `CFG_REF9`. -/
def s9 : State := State.reset

/-- `" 38C"`. -/
def v38 : Composite := ⟨.blank, .d3, .d8, .C⟩

/-- With a published lamp value. -/
def withLed (l : Frame) (s : State) : State := { s with led.pubLed := some l }

/-- With a command about to act. -/
def at' (op : HostOp) (p : Point) (s : State) : State := { s with fg.cmd := .busy op (.ready p) }

/-- With the inputs. -/
def given (es : List Event) (s : State) : State := { s with world.inputs := es }

/-- About to complete the composite `v` for the confirming time. -/
def confirming (v : Composite) (s : State) : State :=
  { s with display := { s.display with dpos := .aw4, comp := v, latest := some v, stableCnt := 1#8 } }

/-- Inside a blink episode, the last blank at `last`, now at `now`. -/
def blinkingAt (last now : Nat) (s : State) : State :=
  { s with display.blinking := true, display.lastBlankFc := last, sampler.frameTotal := now }

/-! ## Well-formedness: the reference configurations, and one ill-formed term for each check -/

theorem test_ref7_accepted : Cfg.ref7.accepted = true := by decide +kernel
theorem test_ref9_accepted : Cfg.ref9.accepted = true := by decide +kernel
theorem test_wf_w1 : ({ Cfg.ref9 with pos1 := 0x0041#16 } : Cfg).w1 = false := by decide +kernel
theorem test_wf_w2 : ({ Cfg.ref9 with segB := 0x2000#16 } : Cfg).w2 = false := by decide +kernel
theorem test_wf_w3 : ({ Cfg.ref9 with cue := 0x0140#16 } : Cfg).w3 = false := by decide +kernel
theorem test_wf_w4 : ({ Cfg.ref9 with cue := 0x4000#16 } : Cfg).w4 = false := by decide +kernel
theorem test_wf_w5 : ({ Cfg.ref9 with buttonAny := 0xB58A#16 } : Cfg).w5 = false := by decide +kernel
theorem test_wf_w6 : ({ Cfg.ref9 with cue := 0#16 } : Cfg).w6 = false := by decide +kernel
theorem test_wf_w7 : ({ Cfg.ref7 with unitC := .H } : Cfg).w7 = false := by decide +kernel
theorem test_wf_w8 : ({ Cfg.ref9 with confirmDisp := 0#8 } : Cfg).w8 = false := by decide +kernel
theorem test_wf_w9 : ({ Cfg.ref9 with tempSetMax := 61 } : Cfg).w9 = false := by decide +kernel
theorem test_wf_w10 : ({ Cfg.ref9 with variant := .base7 } : Cfg).w10 = false := by decide +kernel
theorem test_wf_ranges : ({ Cfg.ref9 with pressShortCount := 4#8 } : Cfg).ranges = false := by decide +kernel

/-- Frames that are not of the operation's row: a cue, a later position, a position bit, an earlier button, a BUTTON bit. -/
theorem test_wf_frames :
    (Instr.fDigitP1 0x0020#16).wellFormed Cfg.ref9 = false ∧ (Instr.fDigitP2 0x0060#16).wellFormed Cfg.ref9 = false ∧
    (Instr.fDigitP3 0x0820#16).wellFormed Cfg.ref9 = false ∧ (Instr.fDigitP4 0x0804#16).wellFormed Cfg.ref9 = false ∧
    (Instr.fLed 0x4140#16).wellFormed Cfg.ref9 = false ∧ (Instr.fBtnPower 0x0100#16).wellFormed Cfg.ref9 = false ∧
    (Instr.fBtnFilter 0x0402#16).wellFormed Cfg.ref9 = false ∧ (Instr.fBtnJet 0x0200#16).wellFormed Cfg.ref7 = false ∧
    (Instr.fBtnNone 0x0300#16).wellFormed Cfg.ref9 = false ∧ (Instr.fUnknown 0x0000#16).wellFormed Cfg.ref9 = false := by
  decide +kernel

theorem test_wf_press :
    (Instr.hPress .jet 4#8).wellFormed Cfg.ref7 = false ∧ (Instr.hPress .jet 3#8).wellFormed Cfg.ref9 = false ∧
    (Instr.hPress .tempUnit 4#8).wellFormed Cfg.ref9 = false ∧ (Instr.hPress .jet 4#8).wellFormed Cfg.ref9 = true := by
  decide +kernel

/-! ## Decoding: every constructor from a word or a name -/

theorem test_decode_edges :
    decodeEdge true true 3#5 = .sShift true ∧ decodeEdge false false 15#5 = .sShift false ∧
    decodeEdge true false 16#5 = .sComplete ∧ decodeEdge false true 10#5 = .sDrop ∧
    decodeEdge false true 0#5 = .sIdle := by decide

/-- T10, column `CFG_REF9`; `DIGIT 2 '3'`, `DIGIT 3 '8'`, `DIGIT 4 'C'` of R133. -/
theorem test_decode_digits :
    decodeFrame Cfg.ref9 0x0040#16 = .fDigitP1 0x0040#16 ∧ decodeFrame Cfg.ref9 0x0864#16 = .fDigitP1 0x0864#16 ∧
    decodeFrame Cfg.ref9 0x3630#16 = .fDigitP2 0x3630#16 ∧ decodeFrame Cfg.ref9 0x3E98#16 = .fDigitP3 0x3E98#16 ∧
    decodeFrame Cfg.ref9 0x248C#16 = .fDigitP4 0x248C#16 := by decide

theorem test_decode_buttons :
    decodeFrame Cfg.ref9 0x0500#16 = .fBtnPower 0x0500#16 ∧ decodeFrame Cfg.ref9 0x0102#16 = .fBtnFilter 0x0102#16 ∧
    decodeFrame Cfg.ref9 0x8100#16 = .fBtnHeater 0x8100#16 ∧ decodeFrame Cfg.ref9 0x0108#16 = .fBtnBubble 0x0108#16 ∧
    decodeFrame Cfg.ref9 0x1100#16 = .fBtnTempUp 0x1100#16 ∧ decodeFrame Cfg.ref9 0x0180#16 = .fBtnTempDown 0x0180#16 ∧
    decodeFrame Cfg.ref9 0x2100#16 = .fBtnTempUnit 0x2100#16 ∧ decodeFrame Cfg.ref9 0x0300#16 = .fBtnJet 0x0300#16 ∧
    decodeFrame Cfg.ref9 0x0011#16 = .fBtnDisinf 0x0011#16 ∧ decodeFrame Cfg.ref9 0x0101#16 = .fBtnNone 0x0101#16 := by
  decide

theorem test_decode_rest :
    decodeFrame Cfg.ref9 0x0100#16 = .fCue ∧ decodeFrame Cfg.ref9 0x4000#16 = .fLed 0x4000#16 ∧
    decodeFrame Cfg.ref9 0x0000#16 = .fZero ∧ decodeFrame Cfg.ref9 0x0001#16 = .fUnknown 0x0001#16 ∧
    decodeFrame Cfg.ref7 0x0300#16 = .fBtnNone 0x0300#16 := by decide

/-- Bit by bit: T10 `0x4101` is `0100 0001 0000 0001`, and R133 `0x3630` is `0011 0110 0011 0000`. -/
theorem test_decode_bits_led :
    decodeBits Cfg.ref9 [false, true, false, false, false, false, false, true,
      false, false, false, false, false, false, false, true] = .ok (.fLed 0x4101#16) := by rfl
theorem test_decode_bits_digit :
    decodeBits Cfg.ref9 [false, false, true, true, false, true, true, false,
      false, false, true, true, false, false, false, false] = .ok (.fDigitP2 0x3630#16) := by rfl
theorem test_decode_bits_short : decodeBits Cfg.ref9 [true, false] = .error (.notOneFrame 2) := by rfl
theorem test_table_word : decodeTableWord 16 0x8100 = some (.fBtnHeater 0x8100#16) ∧ decodeTableWord 24 0x8100 = none := by
  decide
/-- R88: the `seg` values of the table, and the decimal point ignored (R85). -/
theorem test_glyphs :
    decodeGlyph Cfg.ref9 0x3688#16 = some .d0 ∧ decodeGlyph Cfg.ref9 0x2488#16 = some .C ∧
    decodeGlyph Cfg.ref9 0x1690#16 = some .D ∧ decodeGlyph Cfg.ref7 0x1690#16 = none ∧
    frameGlyph Cfg.ref9 0xB6D8#16 = some .d8 := by decide

theorem test_call_press : decodeCall ⟨"H.PRESS", .press .tempUp 2#8⟩ = .ok (.hPress .tempUp 2#8) := by rfl
theorem test_call_toggles :
    decodeCall ⟨"H.SET_POWER", .req true⟩ = .ok (.hSetPower true) ∧
    decodeCall ⟨"H.SET_FILTER", .req true⟩ = .ok (.hSetFilter true) ∧
    decodeCall ⟨"H.SET_BUBBLE", .req false⟩ = .ok (.hSetBubble false) ∧
    decodeCall ⟨"H.SET_HEATER", .req true⟩ = .ok (.hSetHeater true) ∧
    decodeCall ⟨"H.SET_JET", .req true⟩ = .ok (.hSetJet true) := ⟨rfl, rfl, rfl, rfl, rfl⟩
theorem test_call_setpoints :
    decodeCall ⟨"H.SET_TEMP", .int 25⟩ = .ok (.hSetTemp 25) ∧
    decodeCall ⟨"H.SET_DISINF", .int (-3)⟩ = .ok (.hSetDisinf (-3)) := ⟨rfl, rfl⟩
theorem test_call_counters :
    decodeCall ⟨"H.LIVENESS", .noArg⟩ = .ok .hLiveness ∧ decodeCall ⟨"H.GET.ONLINE", .noArg⟩ = .ok .hGetOnline ∧
    decodeCall ⟨"H.GET.FRAMES_TOTAL", .noArg⟩ = .ok .hGetFramesTotal ∧
    decodeCall ⟨"H.GET.FRAMES_DROPPED", .noArg⟩ = .ok .hGetFramesDropped := ⟨rfl, rfl, rfl, rfl⟩
theorem test_call_lamps :
    decodeCall ⟨"H.GET.POWER", .noArg⟩ = .ok .hGetPower ∧ decodeCall ⟨"H.GET.FILTER", .noArg⟩ = .ok .hGetFilter ∧
    decodeCall ⟨"H.GET.BUBBLE", .noArg⟩ = .ok .hGetBubble ∧
    decodeCall ⟨"H.GET.HEATER_ON", .noArg⟩ = .ok .hGetHeaterOn ∧
    decodeCall ⟨"H.GET.HEATER_STANDBY", .noArg⟩ = .ok .hGetHeaterStandby ∧
    decodeCall ⟨"H.GET.BUZZER", .noArg⟩ = .ok .hGetBuzzer ∧ decodeCall ⟨"H.GET.JET", .noArg⟩ = .ok .hGetJet ∧
    decodeCall ⟨"H.GET.DISINF", .noArg⟩ = .ok .hGetDisinf ∧
    decodeCall ⟨"H.GET.LED_RAW", .noArg⟩ = .ok .hGetLedRaw := ⟨rfl, rfl, rfl, rfl, rfl, rfl, rfl, rfl, rfl⟩
theorem test_call_readings :
    decodeCall ⟨"H.GET.ACTUAL_C", .noArg⟩ = .ok .hGetActualC ∧
    decodeCall ⟨"H.GET.DESIRED_C", .noArg⟩ = .ok .hGetDesiredC ∧
    decodeCall ⟨"H.GET.DURATION_H", .noArg⟩ = .ok .hGetDurationH ∧
    decodeCall ⟨"H.GET.ERROR", .noArg⟩ = .ok .hGetError := ⟨rfl, rfl, rfl, rfl⟩
/-- R73: a host operation called `fence` is refused; so is a call with another kind of argument. -/
theorem test_call_refused :
    decodeCall ⟨"fence", .noArg⟩ = .error (.unknownOperation "fence") ∧
    decodeCall ⟨"H.GET.ONLINE", .int 3⟩ = .error (.badArgument "H.GET.ONLINE") ∧
    decodeCall ⟨"H.SET_TEMP", .req true⟩ = .error (.badArgument "H.SET_TEMP") := ⟨rfl, rfl, rfl⟩

/-! ## Sampler (R111 to R114, T1, T7, T9) -/

theorem test_shift : field (exec (.sShift true) { s9 with sampler.sr := 0x8001#16, sampler.nbits := 3#5 })
    (fun t => (t.sampler.sr, t.sampler.nbits)) = some (0x0003#16, 4#5) := by decide
theorem test_complete_is_cue : field (exec .sComplete { s9 with sampler.sr := 0x0100#16, sampler.nbits := 16#5 })
    State.sampler = some ⟨0x0100#16, 0#5, 1, 0⟩ := by decide
theorem test_complete_wraps :
    field (exec .sComplete { s9 with sampler.sr := 0x0100#16, sampler.frameTotal := 0xFFFFFFFF }) (·.sampler.frameTotal)
      = some 0 := by decide
theorem test_drop : field (exec .sDrop { s9 with sampler.nbits := 10#5 })
    (fun t => (t.sampler.nbits, t.sampler.frameTotal, t.sampler.frameDropped)) = some (0#5, 1, 1) := by decide
theorem test_idle : field (exec .sIdle s9) State.sampler = some s9.sampler := by decide
/-- T1: electrically low is logical 1. -/
theorem test_edge_low : field (step (given [.clk .low .low] s9)) (·.sampler.sr) = some 0x0001#16 := by decide
/-- T7: at 15 bits a disabled edge completes the frame `0xFFFE`, an `8` for position 1. -/
theorem test_late_bit :
    field (step (given [.clk .high .high] { s9 with sampler.sr := 0x7FFF#16, sampler.nbits := 15#5 }))
      (fun t => (t.sampler, t.display.dpos, t.display.comp.c1)) = some (⟨0xFFFE#16, 0#5, 1, 0⟩, .aw2, .d8) := by decide
/-- The frame of withFetchWord is the one the next step runs. -/
theorem test_withFetchWord :
    field (step (State.withFetchWord s9 16 0x4101)) (fun t => (t.led.latest, t.sampler.sr)) =
      some (some 0x4101#16, 0x4101#16) := by decide

/-! ## Frames (T10, T20, R133 to R146, T44) -/

theorem test_discards :
    field (exec .fCue s9) State.display = some s9.display ∧ field (exec .fZero s9) State.led = some s9.led ∧
    field (exec (.fUnknown 0x0001#16) s9) State.sampler = some s9.sampler ∧
    field (exec (.fBtnNone 0x0101#16) s9) State.press = some s9.press := by decide
theorem test_digit1 : field (exec (.fDigitP1 0x0040#16) s9) (fun t => (t.display.dpos, t.display.comp.c1)) =
    some (.aw2, .blank) := by decide
theorem test_digit2 : field (exec (.fDigitP2 0x3630#16) { s9 with display.dpos := .aw2 })
    (fun t => (t.display.dpos, t.display.comp.c2)) = some (.aw3, .d3) := by decide
theorem test_digit3_unknown : field (exec (.fDigitP3 0x0850#16) { s9 with display.dpos := .aw3 }) State.display =
    some { s9.display with dpos := .aw3 } := by decide
theorem test_digit3 : field (exec (.fDigitP3 0x3E98#16) { s9 with display.dpos := .aw3 }) (·.display.comp.c3) =
    some .d8 := by decide
theorem test_digit4_change : field (exec (.fDigitP4 0x248C#16) { s9 with display.dpos := .aw4 })
    (fun t => (t.display.latest, t.display.stableCnt, t.display.dpos)) =
      some (some ⟨.blank, .blank, .blank, .C⟩, 3#8, .aw1) := by decide
theorem test_digit4_publish :
    field (exec (.fDigitP4 0x248C#16)
      { confirming v38 s9 with display.actualCand := some v38, display.actualCnt := 1#8 }) (·.display.pubActual)
      = some (some v38) := by decide
/-- R143: `"E90 "` confirmed. -/
theorem test_digit4_error : field (exec (.fDigitP4 0x0004#16) (confirming ⟨.E, .d9, .d0, .blank⟩ s9)) (·.display.errCode)
    = some (some ⟨.d9, .d0, .blank⟩) := by decide
/-- R162, R161: a change, and a publish with the buzzer active that zeroes the counters (T46b). -/
theorem test_led_change : field (exec (.fLed 0x4101#16) s9) (fun t => (t.led.latest, t.led.cnt, t.led.pubLed)) =
    some (some 0x4101#16, 3#8, none) := by decide
theorem test_led_publish :
    field (exec (.fLed 0x4001#16) { s9 with led.latest := some 0x4001#16, led.cnt := 1#8, press.power := 3#8 })
      (fun t => (t.led.pubLed, t.stateUpdated, t.press.power)) = some (some 0x4001#16, true, 0#8) := by decide
/-- R171: `press_cnt[b] = 4`, one echo. -/
theorem test_echoes :
    field (exec (.fBtnFilter 0x0102#16) (setPress .filter 4#8 s9)) (fun t => (t.press.filter, t.reply.rpg))
      = some (3#8, .armed true) := by decide
theorem test_echo_last : field (exec (.fBtnPower 0x0500#16) (setPress .power 1#8 s9))
    (fun t => (t.press.power, t.world.replies)) = some (0#8, [⟨.power, 0⟩]) := by decide
theorem test_echo_none :
    field (exec (.fBtnHeater 0x8100#16) s9) (·.reply.rpg) = some .idle ∧
    field (exec (.fBtnBubble 0x0108#16) (setPress .bubble 2#8 s9)) (·.press.bubble) = some 1#8 ∧
    field (exec (.fBtnTempUp 0x1100#16) (setPress .tempUp 2#8 s9)) (·.press.tempUp) = some 1#8 ∧
    field (exec (.fBtnTempDown 0x0180#16) (setPress .tempDown 2#8 s9)) (·.press.tempDown) = some 1#8 ∧
    field (exec (.fBtnTempUnit 0x2100#16) (setPress .tempUnit 2#8 s9)) (·.press.tempUnit) = some 1#8 ∧
    field (exec (.fBtnJet 0x0300#16) (setPress .jet 2#8 s9)) (·.press.jet) = some 1#8 ∧
    field (exec (.fBtnDisinf 0x0110#16) (setPress .disinf 2#8 s9)) (·.press.disinf) = some 1#8 := by decide

/-! ## Host operations (T38, T46, T47, T54, T55) -/

theorem test_celsius :
    celsius Cfg.ref7 (some ⟨.d1, .d0, .d4, .F⟩) = some 40 ∧ celsius Cfg.ref7 (some ⟨.blank, .d6, .d8, .F⟩) = some 20 ∧
    celsius Cfg.ref7 (some ⟨.d2, .d1, .d1, .F⟩) = none ∧ celsius Cfg.ref7 (some ⟨.blank, .d3, .d1, .F⟩) = none ∧
    celsius Cfg.ref7 (some ⟨.d1, .d4, .d0, .F⟩) = some 60 ∧ celsius Cfg.ref7 (some ⟨.d1, .d4, .d1, .F⟩) = none ∧
    celsius Cfg.ref7 (some ⟨.blank, .d6, .d1, .C⟩) = none ∧ celsius Cfg.ref7 (some ⟨.blank, .d3, .blank, .C⟩) = none := by
  decide
theorem test_pack : packComposite ⟨.blank, .d3, .d8, .C⟩ = 0x20333843#32 := by decide
theorem test_snap :
    [(-3 : Int), 0, 1, 2, 3, 4, 5, 6, 7, 8, 100].map (snap Cfg.ref9) = [0, 0, 0, 3, 3, 3, 5, 5, 8, 8, 8] := by decide
theorem test_lamps7 : [Lamp.power, .filter, .bubble, .heaterOn, .heaterStandby, .jet].map
    (fun x => readLamp x (withLed 0x5081#16 s7)) = [some true, some true, some false, some true, some false, none] := by
  decide
theorem test_lamps9 :
    field (exec .hGetJet (withLed 0x410B#16 s9)) (·.world.result) = some (some (.tri (some true))) ∧
    field (exec .hGetDisinf (withLed 0x410B#16 s9)) (·.world.result) = some (some (.tri (some true))) ∧
    field (exec .hGetPower (withLed 0x410B#16 s9)) (·.world.result) = some (some (.tri (some true))) ∧
    field (exec .hGetFilter (withLed 0x410B#16 s9)) (·.world.result) = some (some (.tri (some false))) ∧
    field (exec .hGetBubble (withLed 0x410B#16 s9)) (·.world.result) = some (some (.tri (some false))) ∧
    field (exec .hGetHeaterOn (withLed 0x410B#16 s9)) (·.world.result) = some (some (.tri (some false))) ∧
    field (exec .hGetHeaterStandby (withLed 0x430B#16 s9)) (·.world.result) = some (some (.tri (some true))) ∧
    field (exec .hGetBuzzer (withLed 0x410B#16 s9)) (·.world.result) = some (some (.tri (some false))) ∧
    field (exec .hGetLedRaw s9) (·.world.result) = some (some (.mask none)) := by decide
theorem test_readings :
    field (exec .hGetActualC { s9 with display.pubActual := some v38 }) (·.world.result) = some (some (.reading (some 38))) ∧
    field (exec .hGetDesiredC s9) (·.world.result) = some (some (.reading none)) ∧
    field (exec .hGetDurationH { s9 with display.pubDuration := some ⟨.blank, .blank, .d3, .H⟩ }) (·.world.result)
      = some (some (.reading (some 3))) ∧
    field (exec .hGetError s9) (·.world.result) = some (some (.error none)) ∧
    field (exec .hGetOnline s9) (·.world.result) = some (some (.bool false)) ∧
    field (exec .hGetFramesTotal { s9 with sampler.frameTotal := 46 }) (·.world.result) = some (some (.counter 46)) ∧
    field (exec .hGetFramesDropped s9) (·.world.result) = some (some (.counter 0)) := by decide
/-- T55: at 1050 ms still online, at 1051 ms offline; a pulse brings the link online. -/
theorem test_liveness :
    field (exec .hLiveness { s9 with fg.online := true, world.nowMs := 1050#32 }) (·.fg.online) = some true ∧
    field (exec .hLiveness { s9 with fg.online := true, world.nowMs := 1051#32 }) (·.fg.online) = some false ∧
    field (exec .hLiveness { s9 with stateUpdated := true, world.nowMs := 7#32 }) (fun t => (t.fg, t.stateUpdated)) =
      some (⟨true, 7#32, .idle⟩, false) := by decide
/-- T47, R179: UNDEF counts as off; with the power lamp off `H.SET_POWER true` starts a press of 4. -/
theorem test_toggles :
    field (exec (.hSetPower false) s9) (·.world.result) = some (some (.bool true)) ∧
    field (exec (.hSetPower true) (withLed 0x4100#16 s9)) (·.fg.cmd) =
      some (.busy .setPower (.ready (.pollQuiet .power 4#8 10 .direct))) ∧
    field (exec (.hSetFilter true) (withLed 0x5100#16 s9)) (·.fg.cmd) = some .idle ∧
    field (exec (.hSetBubble true) s9) (·.fg.cmd) =
      some (.busy .setBubble (.ready (.pollQuiet .bubble 4#8 10 .direct))) ∧
    field (exec (.hSetHeater true) (withLed 0x4180#16 s9)) (·.world.result) = some (some (.bool true)) ∧
    field (exec (.hSetJet true) s7) (·.world.result) = some (some (.bool false)) := by decide
theorem test_setpoints :
    field (exec (.hSetTemp 50) { s9 with display.pubDesired := some ⟨.blank, .d4, .d0, .C⟩ }) (·.world.result)
      = some (some (.bool true)) ∧
    field (exec (.hSetTemp 25) s9) (·.fg.cmd) =
      some (.busy .setTemp (.ready (.pollQuiet .tempDown 2#8 10 (.probe 25)))) ∧
    field (exec (.hSetDisinf 4) { s9 with display.pubDuration := some ⟨.blank, .blank, .d3, .H⟩ }) (·.world.result)
      = some (some (.bool true)) ∧
    field (exec (.hSetDisinf 4) s7) (·.world.result) = some (some (.bool false)) := by decide
theorem test_press : field (exec (.hPress .tempUp 2#8) s9) (·.fg.cmd) =
    some (.busy .press (.ready (.checkQuiet .tempUp 2#8 .direct))) := by decide
/-- R177: the action that arms, and the return with a silent buzzer. -/
theorem test_press_actions :
    field (runEvent .fg (at' .press (.arm .tempUp 2#8 .direct) s9)) (·.press.tempUp) = some 2#8 ∧
    field (runEvent .fg (at' .press (.disarm .tempUp false .direct) (setPress .tempUp 2#8 s9)))
      (fun t => (t.press.tempUp, t.fg.cmd, t.world.result)) = some (0#8, .idle, some (.bool false)) := by decide
theorem test_refusals :
    exec (.hPress .jet 4#8) s7 = .refused (.buttonAbsent .jet) ∧
    exec (.hPress .tempUnit 4#8) s7 = .refused (.pressNotMade .tempUnit 4#8) ∧
    exec (.hPress .filter 3#8) s7 = .refused (.pressNotMade .filter 3#8) ∧
    exec (.hSetTemp 25) (at' .press (.readBuzzer .power .direct) s9) = .refused (.hostBusy .press) ∧
    step (given [.host ⟨"fence", .noArg⟩] s9) = .refused (.badCall (.unknownOperation "fence")) := ⟨rfl, rfl, rfl, rfl, rfl⟩

/-! ## Witnesses: states and operands that meet the hypotheses of each statement, clause by clause -/

theorem witness_DecodeEncodeAgree :
    Cfg.ref9.wellFormed = true ∧ (Instr.fBtnDisinf 0x0010#16).wellFormed Cfg.ref9 = true ∧
    (Instr.fUnknown 0x0001#16).wellFormed Cfg.ref9 = true ∧ (Instr.hPress .disinf 2#8).wellFormed Cfg.ref9 = true ∧
    decodeCall ⟨"H.SET_TEMP", .int 25⟩ = .ok (.hSetTemp 25) ∧
    decodeCall ⟨"H.SET_TEMP", .noArg⟩ = .error (.badArgument "H.SET_TEMP") :=
  ⟨by decide +kernel, by decide +kernel, by decide +kernel, by decide +kernel, rfl, rfl⟩

theorem witness_EveryFrameSelectsOneOperation :
    Cfg.ref7.wellFormed = true ∧ (Instr.fBtnNone 0x0300#16).wellFormed Cfg.ref7 = true ∧
    encode Cfg.ref7 (.fBtnNone 0x0300#16) = .frame 0x0300#16 := by decide +kernel

theorem witness_GlyphTableDecodes :
    Cfg.ref9.wellFormed = true ∧ (Glyph.C, SegSet.mk true false false true true true false) ∈ Cfg.ref9.glyphs ∧
    (∀ r ∈ Cfg.ref9.glyphs, segmask Cfg.ref9 r.2 ≠ 0x0010#16) := by decide +kernel

theorem witness_SixteenEdgesAssembleTheFrame :
    s9.sampler.nbits = 0#5 ∧ s9.reply.dataPin = .input ∧ s9.world.inputs = [] := ⟨rfl, rfl, rfl⟩

theorem witness_StepRunsTheDecodedOperation :
    (given [.clk .low .low] { s9 with sampler.nbits := 14#5 }).sampler.nbits.toNat < 15 ∧
    (given [.clk .low .low] s9).sampler.nbits.toNat < 15 ∧
    (given [.clk .low .high] { s9 with sampler.nbits := 15#5 }).sampler.nbits = 15#5 ∧
    decodeCall ⟨"H.GET.ONLINE", .noArg⟩ = .ok .hGetOnline ∧
    decodeCall ⟨"fence", .noArg⟩ = .error (.unknownOperation "fence") ∧ (given [.tick] s9).world.inputs = [.tick] ∧
    s9.world.inputs = [] := ⟨by decide, by decide, rfl, rfl, rfl, rfl, rfl⟩

theorem witness_DropCountsBothAndKeepsDecoders :
    (1#5).toNat ≤ 15 ∧ (14#5).toNat ≤ 15 ∧ decodeEdge false true 1#5 = .sDrop ∧ decodeEdge false true 14#5 = .sDrop ∧
    decodeEdge false true 15#5 ≠ .sDrop := by decide

theorem witness_IdleEdgeAndZeroFrameChangeNothing :
    Cfg.ref9.wellFormed = true ∧ decodeFrame Cfg.ref9 0#16 = .fZero ∧ decodeEdge false true 0#5 = .sIdle := by
  decide +kernel

theorem witness_EdgeCounting :
    (∃ t, runEvent (.clk .low .high) { s9 with sampler.nbits := 15#5 } = .next t) ∧
    (∃ t, runEvent (.clk .low .high) { s9 with sampler.nbits := 14#5 } = .next t) ∧
    (∃ t, runEvent (.clk .low .high) { s9 with sampler.nbits := 0#5 } = .next t) ∧
    (∃ t, runEvent (.clk .low .low) { s9 with sampler.nbits := 14#5 } = .next t) :=
  ⟨⟨_, rfl⟩, ⟨_, rfl⟩, ⟨_, rfl⟩, ⟨_, rfl⟩⟩

theorem witness_UnknownPatternChangesNothing :
    ∀ r ∈ s9.cfg.glyphs, segmask s9.cfg r.2 ≠ 0x0050#16 &&& s9.cfg.segments := by decide +kernel

theorem witness_PositionNotAwaitedChangesNothing :
    ({ s9 with display.dpos := .aw3 } : State).display.dpos ≠ .aw1 ∧ s9.display.dpos ≠ .aw2 ∧
    s9.display.dpos ≠ .aw3 ∧ s9.display.dpos ≠ .aw4 := by decide

theorem witness_AcceptedCharacterIsStored :
    decodeGlyph s9.cfg (0x0040#16 &&& s9.cfg.segments) = some .blank ∧ s9.display.dpos = .aw1 ∧
    decodeGlyph s9.cfg (0x3630#16 &&& s9.cfg.segments) = some .d3 ∧
    decodeGlyph s9.cfg (0x3E98#16 &&& s9.cfg.segments) = some .d8 ∧
    decodeGlyph s9.cfg (0x248C#16 &&& s9.cfg.segments) = some .C ∧
    ({ s9 with display.dpos := .aw2 } : State).display.dpos = .aw2 ∧
    ({ s9 with display.dpos := .aw3 } : State).display.dpos = .aw3 ∧
    ({ s9 with display.dpos := .aw4 } : State).display.dpos = .aw4 := by decide +kernel

/-- The frame 0x248C (`DIGIT 4 'C'`) confirms `" 38C"`. -/
theorem confirms38 (s : State) (h : s.cfg = Cfg.ref9) : Confirms (confirming v38 s) 0x248C#16 v38 :=
  ⟨⟨rfl, .C, (show decodeGlyph s.cfg (0x248C#16 &&& s.cfg.segments) = some .C by rw [h]; decide +kernel), rfl⟩, rfl, rfl⟩

/-- The frame 0x0004 (`DIGIT 4 ' '`) confirms the blank composite and `"E90 "`. -/
theorem confirmsBlankEnd (v : Composite) (hv : v.c4 = .blank) (s : State) (h : s.cfg = Cfg.ref9) :
    Confirms (confirming v s) 0x0004#16 v := by
  rcases v with ⟨a, b, c, d⟩
  cases hv
  exact ⟨⟨rfl, .blank, (show decodeGlyph s.cfg (0x0004#16 &&& s.cfg.segments) = some .blank by rw [h]; decide +kernel),
    rfl⟩, rfl, rfl⟩

theorem witness_EqualCompositeCountsDown :
    CompletesComposite (confirming v38 s9) 0x248C#16 v38 ∧ (confirming v38 s9).display.latest = some v38 ∧
    (confirming v38 s9).display.stableCnt = 1#8 ∧ s9.display.stableCnt ≠ 1#8 ∧ s9.display.stableCnt ≠ 0#8 ∧
    s9.cfg.confirmDisp ≠ 0#8 := ⟨(confirms38 s9 rfl).1, rfl, rfl, by decide, by decide, by decide⟩

theorem witness_ChangedCompositeBecomesReference :
    CompletesComposite { confirming v38 s9 with display.latest := none } 0x248C#16 v38 ∧
    ({ confirming v38 s9 with display.latest := none } : State).display.latest ≠ some v38 :=
  ⟨⟨rfl, .C, by decide +kernel, rfl⟩, by decide⟩

theorem witness_ConfirmedBlankDebounce :
    Confirms (confirming .blank4 { s9 with display.blankCnt := 0#8 }) 0x0004#16 .blank4 ∧
    Confirms (confirming .blank4 s9) 0x0004#16 .blank4 ∧ s9.display.blankCnt ≠ 0#8 ∧ s9.display.blankCnt ≠ 1#8 :=
  ⟨confirmsBlankEnd _ rfl _ rfl, confirmsBlankEnd _ rfl _ rfl, by decide, by decide⟩

theorem witness_AcceptedBlankCountsAndPublishes :
    Confirms (confirming .blank4 { s9 with display.blankCnt := 1#8 }) 0x0004#16 .blank4 ∧
    s9.display.blinking = false ∧
    Confirms (confirming .blank4 (blinkingAt 0 9 { s9 with display.blankCnt := 1#8 })) 0x0004#16 .blank4 ∧
    (blinkingAt 0 9 s9).display.blinking = true :=
  ⟨confirmsBlankEnd _ rfl _ rfl, rfl, confirmsBlankEnd _ rfl _ rfl, rfl⟩

/-- R141 at the threshold of 200: age 201 ends the episode, age 200 does not; in a whole step, which counts first, the
last total that keeps it open is 199. -/
theorem witness_BlinkEpisodeEnds :
    CountersFit (confirming v38 (blinkingAt 0 201 s9)) ∧ EndsEpisode (confirming v38 (blinkingAt 0 201 s9)) ∧
    ¬ EndsEpisode (confirming v38 (blinkingAt 0 200 s9)) ∧
    Confirms (confirming v38 (blinkingAt 0 201 s9)) 0x248C#16 v38 ∧ v38 ≠ .blank4 ∧
    field (exec (Instr.digit .p4 0x248C#16) (confirming v38 (blinkingAt 0 201 s9))) (·.display.blinking) = some false ∧
    CountersFit (State.withFetchWord (confirming v38 (blinkingAt 0 200 s9)) 16 0x248C) ∧
    field (step (State.withFetchWord (confirming v38 (blinkingAt 0 200 s9)) 16 0x248C)) (·.display.blinking) = some false ∧
    field (step (State.withFetchWord (confirming v38 (blinkingAt 0 199 s9)) 16 0x248C)) (·.display.blinking) = some true :=
  ⟨by unfold CountersFit; decide +kernel, by unfold EndsEpisode age; decide +kernel,
   by unfold EndsEpisode age; decide +kernel, confirms38 _ rfl, by decide, by decide,
   by unfold CountersFit; decide +kernel, by decide, by decide⟩

theorem witness_ConfirmedErrorIsLatched :
    CountersFit (confirming ⟨.E, .d9, .d0, .blank⟩ (blinkingAt 0 201 s9)) ∧
    Confirms (confirming ⟨.E, .d9, .d0, .blank⟩ (blinkingAt 0 201 s9)) 0x0004#16 ⟨.E, .d9, .d0, .blank⟩ ∧
    EndsEpisode (confirming ⟨.E, .d9, .d0, .blank⟩ (blinkingAt 0 201 s9)) ∧
    ¬ EndsEpisode (confirming ⟨.E, .d9, .d0, .blank⟩ s9) ∧ Glyph.E = s9.cfg.errorMarker :=
  ⟨by unfold CountersFit; decide +kernel, confirmsBlankEnd _ rfl _ rfl, by unfold EndsEpisode age; decide +kernel,
   by unfold EndsEpisode age; decide +kernel, rfl⟩

/-- R91: `" 38C"` and `"104F"` show a temperature. -/
theorem temp38 : ShowsTemperature Cfg.ref9 v38 := ⟨by decide, .inl rfl⟩
theorem temp104F : ShowsTemperature Cfg.ref9 ⟨.d1, .d0, .d4, .F⟩ := ⟨by decide, .inr rfl⟩

/-- R144 at the window of 40: age 40 is inside, age 41 is not. -/
theorem witness_ConfirmedTemperatureWhileBlinking :
    CountersFit (confirming v38 (blinkingAt 0 40 s9)) ∧ Confirms (confirming v38 (blinkingAt 0 40 s9)) 0x248C#16 v38 ∧
    ShowsTemperature s9.cfg v38 ∧ ¬ EndsEpisode (confirming v38 (blinkingAt 0 40 s9)) ∧
    s9.display.blinkPending ≠ some v38 ∧ age (confirming v38 (blinkingAt 0 40 s9)) ≤ s9.cfg.blinkUpdateWindow ∧
    ¬ age (confirming v38 (blinkingAt 0 41 s9)) ≤ s9.cfg.blinkUpdateWindow ∧
    ¬ EndsEpisode (confirming v38 (blinkingAt 0 41 s9)) ∧
    ({ s9 with display.blinkPending := some v38 } : State).display.blinkPending = some v38 :=
  ⟨by unfold CountersFit; decide +kernel, confirms38 _ rfl, temp38, by unfold EndsEpisode age; decide +kernel,
   by decide, by unfold age; decide +kernel, by unfold age; decide +kernel, by unfold EndsEpisode age; decide +kernel, rfl⟩

/-- The state of `blinkingAt` after the episode-end test: at age 201 the episode ends, at age 200 it stays open. -/
def ended (v : Composite) (s : State) : Display :=
  { onConfirm s v with blinking := false, blinkPending := none, blinkStab := 0#8 }
theorem endsAt201 (v : Composite) : EndsEpisode (confirming v (blinkingAt 0 201 s9)) := by
  unfold EndsEpisode age; exact ⟨rfl, by show 200 < (201 + 2 ^ 32 - 0) % 2 ^ 32; decide⟩
theorem openAt200 (v : Composite) : ¬ EndsEpisode (confirming v (blinkingAt 0 200 s9)) := by
  unfold EndsEpisode age; exact fun h => absurd h.2 (by show ¬ 200 < (200 + 2 ^ 32 - 0) % 2 ^ 32; decide)

theorem witness_ConfirmedTemperatureWhileSteady :
    Confirms (confirming v38 { s9 with display.actualCand := some v38, display.actualCnt := 1#8 }) 0x248C#16 v38 ∧
    Confirms (confirming v38 { s9 with display.actualCand := some v38 }) 0x248C#16 v38 ∧ s9.display.actualCnt ≠ 1#8 ∧
    Confirms (confirming v38 s9) 0x248C#16 v38 ∧ s9.display.actualCand ≠ some v38 ∧ s9.display.blinking = false ∧
    ShowsTemperature s9.cfg v38 ∧ AfterEpisodeTest (confirming v38 s9) v38 (onConfirm (confirming v38 s9) v38) ∧
    CountersFit (confirming v38 (blinkingAt 0 201 s9)) ∧ Confirms (confirming v38 (blinkingAt 0 201 s9)) 0x248C#16 v38 ∧
    AfterEpisodeTest (confirming v38 (blinkingAt 0 201 s9)) v38 (ended v38 (confirming v38 (blinkingAt 0 201 s9))) :=
  ⟨confirms38 _ rfl, confirms38 _ rfl, by decide, confirms38 _ rfl, by decide, rfl, temp38,
   .inl ⟨fun h => absurd h.1 (by decide), rfl⟩, by unfold CountersFit; decide +kernel, confirms38 _ rfl,
   .inr ⟨endsAt201 _, rfl⟩⟩

/-- `"123 "` without a marker and `"  3H"` with the duration marker, with the episode open at age 200 and ended at 201. -/
theorem witness_ConfirmedDurationAndUnsupported :
    Confirms (confirming ⟨.d1, .d2, .d3, .blank⟩ (blinkingAt 0 201 s9)) 0x0004#16 ⟨.d1, .d2, .d3, .blank⟩ ∧
    s9.cfg.durationMarker ≠ some .blank ∧ Glyph.d1 ≠ s9.cfg.errorMarker ∧ Glyph.blank ≠ s9.cfg.unitC ∧
    Glyph.blank ≠ s9.cfg.unitF ∧
    Confirms (confirming ⟨.blank, .blank, .d3, .H⟩ (blinkingAt 0 200 s9)) 0x129C#16 ⟨.blank, .blank, .d3, .H⟩ ∧
    s9.cfg.durationMarker = some .H ∧ CountersFit (confirming v38 (blinkingAt 0 201 s9)) ∧
    (∀ v, AfterEpisodeTest (confirming v (blinkingAt 0 200 s9)) v (onConfirm (confirming v (blinkingAt 0 200 s9)) v)) ∧
    (∀ v, AfterEpisodeTest (confirming v (blinkingAt 0 201 s9)) v (ended v (confirming v (blinkingAt 0 201 s9)))) :=
  ⟨confirmsBlankEnd _ rfl _ rfl, by decide, by decide, by decide, by decide,
   ⟨⟨rfl, .H, by decide +kernel, rfl⟩, rfl, rfl⟩, rfl, by unfold CountersFit; decide +kernel,
   fun _ => .inl ⟨openAt200 _, rfl⟩, fun _ => .inr ⟨endsAt201 _, rfl⟩⟩

/-- The 10th composite of T-sequence `DISPLAY*10 " 38C"` publishes, the 9th does not (R145). -/
theorem witness_SteadyTemperatureLatency :
    Cfg.ref9.confirmDisp ≠ 0#8 ∧ Cfg.ref9.confirmActual ≠ 0#8 ∧ ShowsTemperature Cfg.ref9 v38 ∧
    s9.display.latest ≠ some v38 ∧ s9.display.actualCand ≠ some v38 ∧
    (List.range 9).length < 1 + Cfg.ref9.confirmDisp.toNat * (Cfg.ref9.confirmActual.toNat + 1) ∧
    (List.range 10).length = 1 + Cfg.ref9.confirmDisp.toNat * (Cfg.ref9.confirmActual.toNat + 1) :=
  ⟨by decide, by decide, temp38, by decide, by decide, by decide, by decide⟩

/-- A step that accepts the second blank of an episode with a stable candidate. -/
theorem witness_DesiredReadingChangesOnlyAtABlink :
    field (step (State.withFetchWord (confirming .blank4 { blinkingAt 0 9 s9 with
      display.blinking := true, display.blankCnt := 1#8, display.blinkCount := 1#8, display.blinkPending := some v38
      display.blinkStab := 2#8 }) 16 0x0004)) (·.display.pubDesired) = some (some v38) := by decide

theorem witness_LedFrameCountsAndPublishes :
    s9.led.latest ≠ some 0x4101#16 ∧ s9.led.cnt ≠ 1#8 ∧ (0x4101#16 &&& s9.cfg.lampNoBeep) ≠ 0#16 ∧
    (0x4001#16 &&& s9.cfg.lampNoBeep) = 0#16 ∧
    ({ s9 with led.latest := some 0x4101#16, led.cnt := 1#8 } : State).led = ⟨some 0x4101#16, 1#8, none⟩ := by decide

theorem witness_LedDebounceLaw : s9.cfg.confirmLed ≠ 0#8 ∧ s9.led.latest ≠ some 0x4101#16 ∧ 3 ≤ s9.cfg.confirmLed.toNat := by
  decide

theorem witness_ButtonEchoCountsDownAndReplies :
    s9.press.get .power = 0#8 ∧ (setPress .power 1#8 s9).press.get .power ≠ 0#8 ∧
    (setPress .disinf 255#8 s9).press.get .disinf ≠ 0#8 ∧ Button.jet ≠ .disinf := by decide

theorem witness_ReplyPulseSequence :
    ({ s9 with reply.rpg := .armed false } : State).reply.rpg = .armed false ∧
    ({ s9 with reply.rpg := .armed true } : State).reply.rpg = .armed true ∧ s9.reply.rpg ≠ .armed true ∧
    ({ s9 with reply.rpg := .drive } : State).reply.rpg = .drive ∧ s9.reply.rpg ≠ .drive ∧
    (∀ seen, s9.reply.rpg ≠ .armed seen) ∧
    (∀ seen, ({ s9 with reply.rpg := .drive } : State).reply.rpg ≠ .armed seen) := by decide

theorem witness_EdgeForcesRelease :
    ReplyGen.Legal ⟨.drive, .drivenLow, .high⟩ ∧
    (∃ t, runEvent (.clk .low .low) { s9 with reply := ⟨.drive, .drivenLow, .high⟩ } = .next t) ∧
    ReplyGen.Legal ⟨.armed true, .input, .high⟩ ∧
    (∃ t, runEvent (.clk .low .low) { s9 with reply := ⟨.armed true, .input, .high⟩ } = .next t) :=
  ⟨by unfold ReplyGen.Legal; decide, ⟨_, rfl⟩, by unfold ReplyGen.Legal; decide, ⟨_, rfl⟩⟩

theorem witness_OwnPulseHidesTheLine :
    ({ s9 with reply := ⟨.drive, .drivenLow, .high⟩ } : State).reply.dataPin = .drivenLow := rfl

/-- A published value 0x4001 shows the buzzer active, 0x4101 silent. -/
theorem buzzer4001 (s : State) (h : s.cfg = Cfg.ref9) : BuzzerOn (withLed 0x4001#16 s) :=
  ⟨_, rfl, by show 0x4001#16 &&& s.cfg.lampNoBeep = 0#16; rw [h]; decide⟩
theorem silent4101 (s : State) (h : s.cfg = Cfg.ref9) : ¬ BuzzerOn (withLed 0x4101#16 s) := by
  rintro ⟨l, hl, h0⟩; cases hl
  replace h0 : 0x4101#16 &&& s.cfg.lampNoBeep = 0#16 := h0
  rw [h] at h0; revert h0; decide

theorem witness_PressStartsWithQuietWait :
    (withLed 0x4001#16 s9).fg.cmd = .idle ∧ Button.disinf ∈ s9.cfg.buttons ∧ s9.cfg.pressCount = 4#8 ∧
    (BuzzerOn (withLed 0x4001#16 s9) ∧ s9.cfg.buzzerWaitTries ≠ 0) ∧
    ¬ (BuzzerOn (withLed 0x4101#16 s9) ∧ s9.cfg.buzzerWaitTries ≠ 0) ∧
    Button.jet ∉ s7.cfg.buttons ∧ Button.tempUnit ∈ s7.cfg.buttons ∧
    ((3#8 : Count) ≠ s7.cfg.pressCount ∧ (3#8 : Count) ≠ s7.cfg.pressShortCount) :=
  ⟨rfl, by decide, rfl, ⟨buzzer4001 _ rfl, by decide⟩, fun h => silent4101 _ rfl h.1, by decide, by decide, by decide⟩

theorem witness_PressActions :
    (BuzzerOn (withLed 0x4001#16 (at' .press (.pollQuiet .power 4#8 1 .direct) s9)) ∧ (1 : Nat) ≠ 0) ∧
    ¬ (BuzzerOn (withLed 0x4001#16 (at' .press (.pollQuiet .power 4#8 0 .direct) s9)) ∧ (0 : Nat) ≠ 0) ∧
    BuzzerOn (withLed 0x4001#16 (at' .press (.checkQuiet .power 4#8 .direct) s9)) ∧
    ¬ BuzzerOn (withLed 0x4101#16 (at' .press (.checkQuiet .power 4#8 .direct) s9)) ∧
    (at' .press (.arm .power 4#8 .direct) s9).fg.cmd = .busy .press (.ready (.arm .power 4#8 .direct)) ∧
    ((at' .press (.pollAck .power 1 .direct) (setPress .power 4#8 s9)).press.get .power ≠ 0#8 ∧ (1 : Nat) ≠ 0) ∧
    ¬ ((at' .press (.pollAck .power 1 .direct) s9).press.get .power ≠ 0#8 ∧ (1 : Nat) ≠ 0) ∧
    (true = true ↔ BuzzerOn (withLed 0x4001#16 (at' .press (.readBuzzer .power .direct) s9))) ∧
    (at' .press (.disarm .power true .direct) s9).fg.cmd = .busy .press (.ready (.disarm .power true .direct)) :=
  ⟨⟨buzzer4001 _ rfl, by decide⟩, fun h => h.2 rfl, buzzer4001 _ rfl, silent4101 _ rfl, rfl, ⟨by decide, by decide⟩,
   fun h => h.1 rfl, iff_of_true rfl (buzzer4001 _ rfl), rfl⟩

/-- With 0x5481 the power, filter and bubble lamps are on, before the first publish they are UNDEF. -/
theorem lampOn5481 (m : Mask) (h : (0x5481#16 &&& m) ≠ 0#16) : LampOn (withLed 0x5481#16 s9) m := ⟨_, rfl, h⟩
theorem lampOff (m : Mask) : ¬ LampOn s9 m := by rintro ⟨l, hl, _⟩; cases hl

theorem witness_TogglesCompareWithTheLamp :
    s9.fg.cmd = .idle ∧ (true = true ↔ LampOn (withLed 0x5481#16 s9) s9.cfg.lampPower) ∧
    (false = true ↔ LampOn s9 s9.cfg.lampFilter) ∧ ¬ (true = true ↔ LampOn s9 s9.cfg.lampBubble) ∧
    ¬ (false = true ↔ LampOn (withLed 0x5481#16 s9) s9.cfg.lampPower) :=
  ⟨rfl, iff_of_true rfl (lampOn5481 _ (by decide)), iff_of_false (by decide) (lampOff _),
   fun h => lampOff _ (h.mp rfl), fun h => absurd (h.mpr (lampOn5481 _ (by decide))) (by decide)⟩

theorem witness_HeaterToggleReadsBothLamps :
    LampOn (withLed 0x5481#16 s9) s9.cfg.lampHeaterOn ∧ ¬ LampOn s9 s9.cfg.lampHeaterOn ∧
    (at' .setHeater (.readStandby false) s9).fg.cmd = .busy .setHeater (.ready (.readStandby false)) ∧
    (false = true ↔ LampOn s9 s9.cfg.lampHeaterStandby) ∧ ¬ (true = true ↔ LampOn s9 s9.cfg.lampHeaterStandby) :=
  ⟨lampOn5481 _ (by decide), lampOff _, rfl, iff_of_false (by decide) (lampOff _), fun h => lampOff _ (h.mp rfl)⟩

theorem witness_JetToggleByVariant :
    s7.fg.cmd = .idle ∧ s7.cfg.variant = .base7 ∧ s9.cfg.variant = .ext9 ∧ s9.cfg.lampJet = some 0x0002#16 ∧
    (false = true ↔ LampOn s9 0x0002#16) ∧ ¬ (true = true ↔ LampOn s9 0x0002#16) :=
  ⟨rfl, rfl, rfl, rfl, iff_of_false (by decide) (lampOff _), fun h => lampOff _ (h.mp rfl)⟩

/-- The clamp at its ends: 19 and 41 are outside, 20 and 40 are inside. -/
theorem witness_SetTempStarts :
    s9.cfg.tempSetMin ≤ s9.cfg.tempSetMax ∧ (19 : Int) < s9.cfg.tempSetMin ∧ (41 : Int) > s9.cfg.tempSetMax ∧
    (s9.cfg.tempSetMin ≤ 20 ∧ (20 : Int) ≤ s9.cfg.tempSetMax) ∧ (s9.cfg.tempSetMin ≤ 40 ∧ (40 : Int) ≤ s9.cfg.tempSetMax) ∧
    celsius s9.cfg s9.display.pubDesired = none ∧ celsius s9.cfg (some v38) = some 38 ∧ (38 : Int) < 40 ∧
    s9.cfg.maxPresses ≠ 0 ∧ ({ Cfg.ref9 with maxPresses := 0 } : Cfg).maxPresses = 0 := by decide

theorem witness_SetDisinfStarts :
    s7.cfg.variant = .base7 ∧ s9.cfg.variant = .ext9 ∧
    hours s9.cfg (some ⟨.blank, .blank, .d3, .H⟩) = some (snap s9.cfg 4) ∧
    hours s9.cfg s9.display.pubDuration ≠ some (snap s9.cfg 4) ∧ s9.cfg.disinfMaxPresses ≠ 0 := by decide

theorem witness_SetpointReadbacks :
    (at' .setTemp (.disarm .tempDown false (.probe 25)) s9).fg.cmd =
      .busy .setTemp (.ready (.disarm .tempDown false (.probe 25))) ∧
    BuzzerOn (withLed 0x4001#16 (at' .setDisinf (.checkQuiet .disinf 4#8 (.disinfStep 3 7 none)) s9)) ∧
    (at' .setTemp (.readProbe 25 0) s9).fg.cmd = .busy .setTemp (.ready (.readProbe 25 0)) ∧
    celsius s9.cfg s9.display.pubDesired = none ∧ celsius s9.cfg (some v38) = some 38 ∧
    (at' .setTemp (.readStep 40 24 39 1) s9).fg.cmd = .busy .setTemp (.ready (.readStep 40 24 39 1)) ∧
    celsius s9.cfg s9.display.pubDesired ≠ some 39 ∧
    (at' .setDisinf (.readDisinf 3 7 none 1) s9).fg.cmd = .busy .setDisinf (.ready (.readDisinf 3 7 none 1)) ∧
    (hours s9.cfg (some ⟨.blank, .blank, .d5, .H⟩) ≠ none ∧ hours s9.cfg (some ⟨.blank, .blank, .d5, .H⟩) ≠ some 3) ∧
    hours s9.cfg s9.display.pubDuration = none :=
  ⟨rfl, buzzer4001 _ rfl, rfl, by decide, by decide, rfl, by decide, rfl, by decide, by decide⟩

theorem witness_SnapIsNearestSmallerFirst : Cfg.ref9.disinfSteps ≠ [] ∧ (0 : Int) ∈ Cfg.ref9.disinfSteps := by decide

/-- Two states that differ in working registers only. -/
theorem same_but_working : SameForCommands s9 { s9 with display.dpos := .aw3, led.cnt := 1#8, reply.rpg := .drive } :=
  ⟨⟨rfl, rfl, rfl, rfl, rfl, rfl, rfl, rfl, rfl⟩, rfl, rfl, rfl⟩

theorem witness_CommandsTouchOnlyPressCountersAndLocals :
    IsCommand (.hSetTemp 25) ∧ (∃ t, exec (.hSetTemp 25) s9 = .next t) ∧ (∃ t, runEvent .fg s9 = .next t) ∧
    SameForCommands s9 { s9 with display.dpos := .aw3, led.cnt := 1#8, reply.rpg := .drive } :=
  ⟨trivial, ⟨_, rfl⟩, ⟨_, rfl⟩, same_but_working⟩

theorem witness_SecondCommandIsRefused :
    (at' .press (.readBuzzer .power .direct) s9).fg.cmd = .busy .press (.ready (.readBuzzer .power .direct)) ∧
    IsCommand (.hPress .power 4#8) ∧ (Instr.hPress .power 4#8).wellFormed s9.cfg = true ∧
    Instr.hLiveness.wellFormed s9.cfg = true := ⟨rfl, trivial, by decide, rfl⟩

theorem witness_CommandsAreBounded :
    (at' .setTemp (.readProbe 25 19) s9).fg.cmd = .busy .setTemp (.ready (.readProbe 25 19)) ∧
    ({ s9 with fg.cmd := .busy .press (.waiting 1 (.arm .power 4#8 .direct)) } : State).fg.cmd =
      .busy .press (.waiting 1 (.arm .power 4#8 .direct)) ∧
    (at' .setTemp (.readProbe 25 19) s9).fg.cmd ≠ .idle ∧ Event.replyEnd ≠ .fg ∧ Event.replyEnd ≠ .tick ∧
    (∃ t, runEvent (.clk .low .low) (at' .setTemp (.readProbe 25 19) s9) = .next t) ∧ s9.fg.cmd = .idle :=
  ⟨rfl, rfl, by decide, by decide, by decide, ⟨_, rfl⟩, rfl⟩

theorem witness_LampAccessors :
    s7.cfg.variant = .base7 ∧ s9.cfg.variant = .ext9 ∧ s9.cfg.lampJet = some 0x0002#16 ∧
    s9.cfg.lampDisinf = some 0x0008#16 := ⟨rfl, rfl, rfl, rfl⟩

theorem witness_FrameCounterAccessors :
    ({ s9.sampler with frameTotal := 2 ^ 32 - 1 } : Sampler).Legal s9.cfg ∧
    (∃ t, step (given [.clk .high .high] { s9 with sampler.frameTotal := 2 ^ 32 - 1, sampler.nbits := 3#5 }) = .next t) :=
  ⟨by unfold Sampler.Legal; decide +kernel, ⟨_, rfl⟩⟩

theorem witness_FrameCounterAccessors_wrap :
    (∃ t, exec .sComplete { s9 with sampler.frameTotal := 2 ^ 32 - 1 } = .next t) ∧
    (∃ t, exec .sDrop { s9 with sampler.frameTotal := 2 ^ 32 - 1, sampler.frameDropped := 2 ^ 32 - 1 } = .next t) ∧
    s9.cfg.wFc = 32 := ⟨⟨_, rfl⟩, ⟨_, rfl⟩, rfl⟩

/-- R148: `"  5"`, `" 38"`, `"104"` are numbers, `"   "`, `"3 8"`, `"E 1"` are none. -/
theorem shows_numbers : ShowsNumber ⟨.blank, .blank, .d5, .C⟩ 5 ∧ ShowsNumber v38 38 ∧ ShowsNumber ⟨.d1, .d0, .d4, .F⟩ 104 :=
  ⟨.inl ⟨rfl, rfl, by decide⟩, .inr (.inl ⟨rfl, 3, 8, by decide, by decide, rfl⟩),
   .inr (.inr ⟨1, 0, 4, by decide, by decide, by decide, rfl⟩)⟩
theorem notDigit {g : Glyph} (h : g ∉ digitValues.map Prod.fst) (n : Int) : (g, n) ∉ digitValues :=
  fun hm => h (List.mem_map_of_mem (f := Prod.fst) hm)
theorem shows_none (a b c d : Glyph) (ha : a ∉ digitValues.map Prod.fst)
    (h : a ≠ .blank ∨ c ∉ digitValues.map Prod.fst) (n : Int) : ¬ ShowsNumber ⟨a, b, c, d⟩ n := by
  rintro (⟨h1, _, h3⟩ | ⟨h1, _, _, _, h3, _⟩ | ⟨_, _, _, h3, _⟩)
  · rcases h with h | h
    · exact h h1
    · exact notDigit h _ h3
  · rcases h with h | h
    · exact h h1
    · exact notDigit h _ h3
  · exact notDigit ha _ h3
theorem test_parse3 :
    parse3 ⟨.blank, .blank, .d5, .C⟩ = some 5 ∧ parse3 v38 = some 38 ∧ parse3 ⟨.d1, .d0, .d4, .F⟩ = some 104 ∧
    parse3 ⟨.blank, .blank, .blank, .C⟩ = none ∧ parse3 ⟨.d3, .blank, .d8, .C⟩ = none ∧
    parse3 ⟨.E, .blank, .d1, .C⟩ = none := by decide

theorem witness_ReadingAccessors :
    s7.cfg.durationMarker = none ∧ celsius s9.cfg (some ⟨.blank, .d6, .d0, .C⟩) = some 60 ∧
    s9.display.pubDuration = none ∧ s9.cfg.durationMarker = some .H ∧ Glyph.H ≠ .C ∧
    ShowsNumber ⟨.blank, .blank, .d3, .H⟩ 3 ∧ (∀ n, ¬ ShowsNumber ⟨.blank, .blank, .blank, .H⟩ n) :=
  ⟨rfl, by decide, rfl, rfl, by decide, .inl ⟨rfl, rfl, by decide⟩, shows_none _ _ _ _ (by decide) (.inr (by decide))⟩

theorem witness_CelsiusConversion :
    (∀ n, ¬ ShowsNumber ⟨.E, .blank, .d1, .C⟩ n) ∧ ShowsNumber ⟨.blank, .d6, .d0, .C⟩ 60 ∧
    ShowsNumber ⟨.blank, .d6, .d1, .C⟩ 61 ∧ ShowsNumber ⟨.d1, .d4, .d1, .F⟩ 141 ∧ Glyph.F ≠ Cfg.ref9.unitC ∧
    Glyph.F = Cfg.ref9.unitF ∧ Glyph.H ≠ Cfg.ref9.unitC ∧ Glyph.H ≠ Cfg.ref9.unitF ∧
    (Cfg.ref9.tempMin ≤ 60 ∧ (60 : Int) ≤ Cfg.ref9.tempMax) ∧
    ¬ (Cfg.ref9.tempMin ≤ 61 ∧ (61 : Int) ≤ Cfg.ref9.tempMax) :=
  ⟨shows_none _ _ _ _ (by decide) (.inl (by decide)), .inr (.inl ⟨rfl, 6, 0, by decide, by decide, rfl⟩),
   .inr (.inl ⟨rfl, 6, 1, by decide, by decide, rfl⟩), .inr (.inr ⟨1, 4, 1, by decide, by decide, by decide, rfl⟩),
   by decide, rfl, by decide, by decide, by decide, by decide⟩

theorem witness_AccessorsSeeOnlyPublishedState :
    IsAccessor .hGetDesiredC ∧ SamePublished s9 { s9 with display.dpos := .aw3, led.cnt := 1#8, reply.rpg := .drive } :=
  ⟨trivial, same_but_working.1⟩

/-- R210 at the timeout of 1050 ms. -/
theorem witness_LivenessCheck :
    s9.fg.cmd = .idle ∧ s9.stateUpdated = false ∧
    s9.cfg.onlineTimeoutMult * s9.cfg.cyclePeriodMs < ((1051#32 : Millis) - s9.fg.lastUpdateMs).toNat ∧
    ¬ s9.cfg.onlineTimeoutMult * s9.cfg.cyclePeriodMs < ((1050#32 : Millis) - s9.fg.lastUpdateMs).toNat := by decide

theorem witness_ConstructionStartsUndefined :
    Cfg.ref7.accepted = true ∧ ({ Cfg.ref7 with cue := 0#16 } : Cfg).accepted = false := by decide +kernel

theorem witness_FreshInstanceIsLegal : Cfg.ref7.accepted = true ∧ Cfg.ref9.accepted = true := by decide +kernel

/-- A legal state, with a lamp value published, RPG driving and a command running, and a step from it. -/
def busyState : State :=
  { s7 with
    led := ⟨some 0x4101#16, 3#8, some 0x4101#16⟩, stateUpdated := true
    reply := ⟨.drive, .drivenLow, .high⟩
    fg := ⟨true, 0#32, .busy .setTemp (.waiting 1 (.readProbe 25 19))⟩
    press := { PressFile.zero with tempDown := 2#8 }
    world.inputs := [.clk .low .low] }

theorem busyState_legal : busyState.Legal := by
  refine ⟨by decide +kernel, ?_, ?_, ?_, ?_, ?_, ?_, ?_, ?_, trivial⟩
  · unfold Sampler.Legal; decide +kernel
  · unfold Display.CountersLegal; decide +kernel
  · unfold Display.BlinkLegal; decide +kernel
  · have none_some : ∀ (P : Composite → Prop) (v : Composite), (none : Option Composite) = some v → P v :=
      fun _ _ h => by cases h
    exact ⟨none_some _, none_some _, none_some _, none_some _, none_some _⟩
  · exact ⟨by decide +kernel, fun l h => by cases h; decide +kernel, fun l h => by cases h; decide +kernel⟩
  · exact ⟨fun _ => by decide +kernel, fun _ => by decide +kernel⟩
  · intro b; cases b <;> decide +kernel
  · unfold ReplyGen.Legal; decide +kernel

theorem witness_StepKeepsLegal :
    busyState.Legal ∧ field (step busyState) (fun t => (t.reply.dataPin, t.sampler.nbits)) = some (.input, 1#5) :=
  ⟨busyState_legal, by decide +kernel⟩

theorem witness_ConfigurationIsReadOnly :
    field (step (given [.host ⟨"H.GET.ONLINE", .noArg⟩] s9)) (·.world.result) = some (some (.bool false)) ∧
    field (construct Cfg.ref7 5#32) (·.fg.lastUpdateMs) = some 5#32 := by decide +kernel

theorem witness_ErrorLatchIsNeverCleared :
    ({ s9 with display.errCode := some ⟨.d9, .d0, .blank⟩ } : State).display.errCode ≠ none ∧
    (∃ t, step { s9 with display.errCode := some ⟨.d9, .d0, .blank⟩ } = .next t) := ⟨by decide, ⟨_, rfl⟩⟩

theorem arming_legal : { busyState with fg.cmd := .busy .press (.ready (.arm .power 4#8 .direct)) }.Legal :=
  { busyState_legal with cmd := ⟨by decide, by decide, trivial⟩ }

theorem witness_ContextsWriteTheirOwnRegisters :
    (∃ t, runEvent (.clk .low .low) s9 = .next t) ∧ (∀ d l, Event.fg ≠ .clk d l) ∧
    { busyState with fg.cmd := .busy .press (.ready (.arm .power 4#8 .direct)) }.Legal ∧
    field (runEvent .fg { busyState with fg.cmd := .busy .press (.ready (.arm .power 4#8 .direct)) }) (·.press.power) =
      some busyState.cfg.pressCount := ⟨⟨_, rfl⟩, nofun, arming_legal, by decide⟩

/-- A step that publishes a lamp value, and one that takes the link online. -/
theorem witness_PulseComesFromTheLedPublish :
    field (step (State.withFetchWord { s9 with led.latest := some 0x4101#16, led.cnt := 1#8 } 16 0x4101)) (·.stateUpdated)
      = some true ∧
    field (step (given [.host ⟨"H.LIVENESS", .noArg⟩] { s9 with stateUpdated := true })) (·.fg.online) = some true :=
  ⟨by decide, rfl⟩

theorem witness_OnlyHostCallsAreRefused :
    (∀ call, Event.latch .high ≠ .host call) ∧ s9.fg.cmd = .idle ∧ (Instr.hPress .jet 4#8).wellFormed s9.cfg = true ∧
    IsAccessor .hGetOnline := ⟨nofun, rfl, by decide, trivial⟩

end Sys2Proof.Tests
end

/-! SUPPORT. The legal states as an invariant of the machine: what a foreground action, a host operation, a clock edge and
every other input can do, each said once, and the statements of construction and of whole steps settled from it. -/

namespace Sys2Proof.Machine

/-! ## What an accepted configuration and its press operands guarantee (R9, R11, R45) -/

/-- The reload values of the debounce counters are positive, and the short press is shorter than the long one. -/
theorem counts_of_accepted {c : Cfg} (h : c.accepted = true) :
    0#8 < c.confirmDisp ∧ 0#8 < c.confirmActual ∧ 0#8 < c.confirmLed ∧ c.pressShortCount < c.pressCount := by
  simp only [Cfg.accepted, Cfg.wellFormed, Cfg.w8, Cfg.ranges, Bool.and_eq_true, List.all_cons, bne_iff_ne,
    decide_eq_true_eq] at h
  obtain ⟨⟨⟨⟨_, hdisp, _, hactual, hled, _⟩, _⟩, _⟩, ⟨⟨hshort, _⟩, _⟩, _⟩ := h
  exact ⟨(BitVec.pos_iff_ne_zero _).mpr hdisp, (BitVec.pos_iff_ne_zero _).mpr hactual,
    (BitVec.pos_iff_ne_zero _).mpr hled, hshort⟩

/-- Every button but TEMP_UNIT may be pressed, the two extended ones on `EXT9` only. -/
theorem mayPress_iff (c : Cfg) (b : Button) :
    mayPress c b = true ↔ b ≠ .tempUnit ∧ (b = .jet ∨ b = .disinf → c.variant = .ext9) := by
  unfold mayPress Cfg.buttons
  cases c.variant <;> cases b <;> decide

theorem armCount_pressCount (c : Cfg) : armCount c c.pressCount = true := by simp [armCount]

theorem armCount_pressShortCount (c : Cfg) : armCount c c.pressShortCount = true := by simp [armCount]

/-- A count that FG may arm is at most the longest press. -/
theorem le_pressCount_of_armCount {c : Cfg} {n : Count} (hc : c.accepted = true) (hn : armCount c n = true) :
    n ≤ c.pressCount := by
  obtain ⟨_, _, _, hshort⟩ := counts_of_accepted hc
  simp only [armCount, Bool.or_eq_true, beq_iff_eq] at hn
  rcases hn with rfl | rfl
  · exact BitVec.le_refl _
  · exact BitVec.le_of_lt hshort

/-! ## The press-counter file -/

theorem count_zero_le (n : Count) : 0#8 ≤ n := by bv_omega

theorem PressFile.zero_legal (c : Cfg) : PressFile.zero.Legal c := fun b => by
  rw [PressFile.get_zero]; exact ⟨count_zero_le _, fun _ => rfl⟩

theorem PressFile.set_legal {c : Cfg} {p : PressFile} {b : Button} {n : Count} (hp : p.Legal c)
    (hn : n ≤ c.pressCount) (hb : mayPress c b = false → n = 0#8) : (p.set b n).Legal c := by
  intro b'
  by_cases h : b' = b
  · subst h; rw [PressFile.get_set_same]; exact ⟨hn, hb⟩
  · rw [PressFile.get_set_other p n h]; exact hp b'

/-! ## What an action of the foreground can do

An action leaves a command register and a result behind and nothing else, apart from the two program points that write
a press counter. -/

/-- `t` is `s` with another command register and result; under the premise `L` the command is one the variant has. -/
def SetsCommand (L : Prop) (s t : State) : Prop :=
  ∃ cmd r, t = { s with fg.cmd := cmd, world.result := r } ∧ (L → cmd.Legal s.cfg)

/-- The press counters after the action at a program point (R177): armed, cleared, or as they were. -/
def Point.pressAfter (p : Point) (f : PressFile) : PressFile :=
  match p with
  | .arm b n _ => f.set b n
  | .disarm b _ _ => f.set b 0#8
  | .pollQuiet _ _ _ _ | .checkQuiet _ _ _ | .pollAck _ _ _ | .readBuzzer _ _ | .readStandby _ | .readProbe _ _
  | .readStep _ _ _ _ | .readDisinf _ _ _ _ => f

section
variable {L : Prop} {s : State} {op : HostOp}

theorem answer_setsCommand (v : HostValue) : SetsCommand (s.fg.cmd.Legal s.cfg) s (answer v s) :=
  ⟨_, _, rfl, id⟩

theorem finish_setsCommand (ok : Bool) : SetsCommand L s (finish ok s) := ⟨_, _, rfl, fun _ => trivial⟩

theorem failTimeout_setsCommand : SetsCommand L s (failTimeout s) := ⟨_, _, rfl, fun _ => trivial⟩

theorem goOn_setsCommand {p : Point} (h : L → p.Legal s.cfg) : SetsCommand L s (goOn op p s) := ⟨_, _, rfl, h⟩

theorem waitThen_setsCommand {p : Point} (d : Nat) (h : L → p.Legal s.cfg) : SetsCommand L s (waitThen op d p s) := by
  refine ⟨_, _, rfl, fun hL => ?_⟩
  split
  · exact h hL
  · exact h hL

theorem callPress_setsCommand {b : Button} {n : Count} {k : Caller}
    (h : L → mayPress s.cfg b = true ∧ armCount s.cfg n = true ∧ k.Legal s.cfg) :
    SetsCommand L s (callPress op b n k s) := goOn_setsCommand h

theorem pressReturn_setsCommand (ok : Bool) {k : Caller} (h : L → k.Legal s.cfg) :
    SetsCommand L s (pressReturn op ok k s) := by
  cases k with
  | direct =>
    cases ok with
    | true => exact finish_setsCommand true
    | false => exact failTimeout_setsCommand
  | probe target => exact waitThen_setsCommand _ fun _ => trivial
  | tempStep target presses expect => exact waitThen_setsCommand _ fun _ => trivial
  | disinfStep target presses cur => exact waitThen_setsCommand _ h

theorem toggle_setsCommand (req : Bool) (cur : Option Bool) {b : Button} (h : L → mayPress s.cfg b = true) :
    SetsCommand L s (toggle op req cur b s) := by
  rcases toggle_cases op req cur b s with ⟨_, e⟩ | ⟨_, e⟩ <;> rw [e]
  · exact finish_setsCommand true
  · exact callPress_setsCommand fun hL => ⟨h hL, armCount_pressCount _, trivial⟩

theorem tempLoop_setsCommand (target cur : Int) (presses : Nat) : SetsCommand L s (tempLoop target cur presses s) := by
  have hbutton : mayPress s.cfg (stepButton target cur) = true := by
    rw [mayPress_iff]; unfold stepButton; split <;> simp
  rcases tempLoop_cases target cur presses s with ⟨_, e⟩ | ⟨_, _, e⟩ | ⟨_, _, e⟩ <;> rw [e]
  · exact finish_setsCommand true
  · exact failTimeout_setsCommand
  · exact callPress_setsCommand fun _ => ⟨hbutton, armCount_pressShortCount _, trivial⟩

theorem disinfLoop_setsCommand (target : Int) (cur : Option Int) (presses : Nat) (h : L → s.cfg.variant = .ext9) :
    SetsCommand L s (disinfLoop target cur presses s) := by
  rcases disinfLoop_cases target cur presses s with ⟨_, e⟩ | ⟨_, _, e⟩ | ⟨_, _, e⟩ <;> rw [e]
  · exact finish_setsCommand true
  · exact failTimeout_setsCommand
  · exact callPress_setsCommand fun hL =>
      ⟨(mayPress_iff _ _).mpr ⟨nofun, fun _ => h hL⟩, armCount_pressCount _, h hL⟩

end

/-- One action of the foreground: the press counter of the program point, then the next command register. -/
theorem act_setsCommand (op : HostOp) (p : Point) (s : State) :
    SetsCommand (p.Legal s.cfg) { s with press := p.pressAfter s.press } (act op p s) := by
  cases p with
  | pollQuiet b n tries k =>
    dsimp only [act]; split
    · exact waitThen_setsCommand _ id
    · exact goOn_setsCommand id
  | checkQuiet b n k =>
    dsimp only [act]; split
    · exact pressReturn_setsCommand false fun ⟨_, _, hk⟩ => hk
    · exact waitThen_setsCommand _ id
  | arm b n k => exact goOn_setsCommand (s := setPress b n s) fun ⟨hb, _, hk⟩ => ⟨hb, hk⟩
  | pollAck b tries k =>
    dsimp only [act]; split
    · exact waitThen_setsCommand _ id
    · exact goOn_setsCommand id
  | readBuzzer b k => exact goOn_setsCommand id
  | disarm b ok k => exact pressReturn_setsCommand (s := setPress b 0#8 s) ok fun ⟨_, hk⟩ => hk
  | readStandby req => exact toggle_setsCommand req _ fun _ => (mayPress_iff _ _).mpr (by simp)
  | readProbe target tries =>
    dsimp only [act]; split
    · exact tempLoop_setsCommand _ _ _
    · split
      · exact failTimeout_setsCommand
      · exact waitThen_setsCommand _ fun _ => trivial
  | readStep target presses expect tries =>
    dsimp only [act]; split
    · split
      · exact tempLoop_setsCommand _ _ _
      · exact failTimeout_setsCommand
    · exact waitThen_setsCommand _ fun _ => trivial
  | readDisinf target presses cur tries =>
    dsimp only [act]; split
    · exact disinfLoop_setsCommand _ _ _ id
    · exact waitThen_setsCommand _ id

/-- A legal program point leaves legal press counters. -/
theorem Point.pressAfter_legal {c : Cfg} {p : Point} {f : PressFile} (hc : c.accepted = true) (hp : p.Legal c)
    (hf : f.Legal c) : (p.pressAfter f).Legal c := by
  cases p with
  | arm b n k =>
    obtain ⟨hb, hn, _⟩ := hp
    exact PressFile.set_legal hf (le_pressCount_of_armCount hc hn) fun h => by rw [hb] at h; cases h
  | disarm b ok k => exact PressFile.set_legal hf (count_zero_le _) fun _ => rfl
  | _ => exact hf

/-- FG's next action: the press counter of the point where a command is about to act, then the command register. -/
theorem fgAction_setsCommand (s : State) :
    ∃ f, (s.Legal → f.Legal s.cfg) ∧
      SetsCommand (s.fg.cmd.Legal s.cfg) { s with press := f } (fgAction s) := by
  rcases fgAction_cases s with ⟨op, p, hcmd, e⟩ | ⟨_, e⟩ <;> rw [e]
  · refine ⟨_, fun hs => Point.pressAfter_legal (p := p) hs.cfg ?_ hs.press, ?_⟩
    · have := hs.cmd; rwa [hcmd] at this
    · rw [hcmd]; exact act_setsCommand op p s
  · exact ⟨s.press, fun hs => hs.press, _, _, rfl, id⟩

theorem tick_setsCommand (s : State) : SetsCommand (s.fg.cmd.Legal s.cfg) s (tick s) := by
  rcases tick_cases s with ⟨op, d, p, hcmd, e⟩ | ⟨_, e⟩ <;> rw [e]
  · exact waitThen_setsCommand _ fun h => by rwa [hcmd] at h
  · exact ⟨_, _, rfl, id⟩

/-! ## What a host operation can do -/

/-- H.LIVENESS (R210): the pulse is consumed and the link is online, or the link goes offline, or neither. -/
theorem liveness_cases (s : State) :
    (s.stateUpdated = true ∧ liveness s =
      { s with stateUpdated := false, fg.lastUpdateMs := s.world.nowMs, fg.online := true }) ∨
    (s.stateUpdated = false ∧ liveness s = { s with fg.online := false }) ∨
    (s.stateUpdated = false ∧ liveness s = s) := by
  unfold liveness
  split
  · rename_i h; exact .inl ⟨h, rfl⟩
  · rename_i h
    rw [Bool.not_eq_true] at h
    split
    · exact .inr (.inl ⟨h, rfl⟩)
    · exact .inr (.inr ⟨h, rfl⟩)

/-- A started command sets the command register when its first action does. -/
theorem startCommand_setsCommand {L : Prop} {run : State → State} {s t : State} (h : startCommand s run = .next t)
    (hrun : SetsCommand L s (run s)) : SetsCommand L s t := by
  obtain ⟨_, rfl⟩ := startCommand_next h
  exact hrun

theorem execHPress_setsCommand {L : Prop} {b : Button} {n : Count} {s t : State} (h : execHPress b n s = .next t) :
    SetsCommand L s t := by
  rcases execHPress_cases b n s with ⟨_, e⟩ | ⟨_, e⟩ | ⟨hw, e⟩
  · rw [e] at h; cases h
  · rw [e] at h; cases h
  · simp only [Instr.wellFormed, Bool.and_eq_true] at hw
    obtain ⟨hb, hn⟩ := hw
    rw [e] at h
    obtain ⟨cmd, r, ht, hcmd⟩ := startCommand_setsCommand h (act_setsCommand .press _ s)
    exact ⟨cmd, r, ht, fun _ => hcmd ⟨by simpa [mayPress] using hb, hn, trivial⟩⟩

section
variable {L : Prop} {s t : State}

theorem execHSetHeater_setsCommand {req : Bool} (h : execHSetHeater req s = .next t) : SetsCommand L s t := by
  refine startCommand_setsCommand h ?_
  split
  · exact toggle_setsCommand req _ fun _ => (mayPress_iff _ _).mpr (by simp)
  · exact goOn_setsCommand fun _ => trivial

theorem execHSetJet_setsCommand {req : Bool} (h : execHSetJet req s = .next t) : SetsCommand L s t := by
  refine startCommand_setsCommand h ?_
  split
  · exact finish_setsCommand false
  · rename_i hv; exact toggle_setsCommand req _ fun _ => (mayPress_iff _ _).mpr ⟨nofun, fun _ => hv⟩

theorem execHSetTemp_setsCommand {x : Int} (h : execHSetTemp x s = .next t) : SetsCommand L s t := by
  refine startCommand_setsCommand h ?_
  split
  · exact callPress_setsCommand fun _ =>
      ⟨(mayPress_iff _ _).mpr (by simp), armCount_pressShortCount _, trivial⟩
  · exact tempLoop_setsCommand _ _ _

theorem execHSetDisinf_setsCommand {x : Int} (h : execHSetDisinf x s = .next t) : SetsCommand L s t := by
  refine startCommand_setsCommand h ?_
  split
  · exact finish_setsCommand false
  · rename_i hv; exact disinfLoop_setsCommand _ _ _ fun _ => hv

end

/-- A host operation that answers is the liveness check, or sets at most the command register and the result. -/
theorem exec_host_cases {i : Instr} {s t : State} (hi : IsHost i) (h : exec i s = .next t) :
    t = answer .unit (liveness s) ∨ SetsCommand (s.fg.cmd.Legal s.cfg) s t := by
  have accessor : ∀ v, (Host.Outcome.next (answer v s) : Result) = .next t →
      SetsCommand (s.fg.cmd.Legal s.cfg) s t := fun v e => next_inj e ▸ answer_setsCommand v
  cases i with
  | hLiveness => exact .inl (startCommand_next (run := fun s => answer .unit (liveness s)) h).2
  | hPress b n => exact .inr (execHPress_setsCommand h)
  | hSetPower req | hSetFilter req | hSetBubble req =>
    exact .inr (startCommand_setsCommand h (toggle_setsCommand req _ fun _ => (mayPress_iff _ _).mpr (by simp)))
  | hSetHeater req => exact .inr (execHSetHeater_setsCommand h)
  | hSetJet req => exact .inr (execHSetJet_setsCommand h)
  | hSetTemp x => exact .inr (execHSetTemp_setsCommand h)
  | hSetDisinf x => exact .inr (execHSetDisinf_setsCommand h)
  | hGetOnline | hGetFramesTotal | hGetFramesDropped | hGetPower | hGetFilter | hGetBubble | hGetHeaterOn
  | hGetHeaterStandby | hGetBuzzer | hGetJet | hGetDisinf | hGetLedRaw | hGetActualC | hGetDesiredC | hGetDurationH
  | hGetError => exact .inr (accessor _ h)
  | _ => exact hi.elim

/-! ## What a frame operation and a clock edge can do -/

/-- Only a frame with the LED marker selects F.LED (R82). -/
theorem hits_ledMark_of_selectFrame {c : Cfg} {f : Frame} (h : selectFrame c f = .led) : hits f c.ledMark = true := by
  by_cases hm : hits f c.ledMark = true
  · exact hm
  · unfold selectFrame at h
    rw [if_neg hm] at h
    split at h
    · cases h
    · split at h
      · cases h
      · split at h
        · split at h <;> cases h
        · split at h <;> cases h

/-- The operation of a frame: without effect, a character, a lamp frame with its marker, or an echo. -/
theorem dispatch_cases (f : Frame) (s : State) :
    dispatch f s = .next s ∨ (∃ k, dispatch f s = .next (digitState k f s)) ∨
      (hits f s.cfg.ledMark = true ∧ dispatch f s = execFLed f s) ∨ ∃ b, dispatch f s = .next (buttonEcho b s) := by
  unfold dispatch
  cases h : selectFrame s.cfg f with
  | digit k => cases k <;> exact .inr (.inl ⟨_, rfl⟩)
  | led => exact .inr (.inr (.inl ⟨hits_ledMark_of_selectFrame h, rfl⟩))
  | button b => cases b <;> exact .inr (.inr (.inr ⟨_, rfl⟩))
  | _ => exact .inl rfl

/-- No frame operation reads or writes `nbits`, so the boundary may as well come before it. -/
theorem dispatch_frameBoundary (f : Frame) (s : State) :
    andThen (dispatch f s) (fun t => .next (frameBoundary t)) = dispatch f (frameBoundary s) := by
  have echo : ∀ b, frameBoundary (buttonEcho b s) = buttonEcho b (frameBoundary s) := fun b => by
    unfold buttonEcho
    rw [frameBoundary_press]
    split <;> rfl
  have led : andThen (execFLed f s) (fun t => .next (frameBoundary t)) = execFLed f (frameBoundary s) := by
    unfold execFLed ledRepeat
    rw [andThen_next, frameBoundary_led]
    split
    · split <;> rfl
    · rfl
  unfold dispatch
  rw [frameBoundary_cfg]
  cases selectFrame s.cfg f with
  | digit k => cases k <;> rfl
  | led => exact led
  | button b => cases b <;> exact congrArg _ (echo _)
  | _ => rfl

/-- S.COMPLETE (R112) as the operation of the frame on a state already counted and at the boundary. -/
theorem execSComplete_eq (s : State) (r : Sampler) :
    execSComplete { s with sampler := r } = dispatch r.sr
      { s with sampler := { r with nbits := 0#5, frameTotal := wrapFc s.cfg (r.frameTotal + 1) } } :=
  dispatch_frameBoundary _ _

/-- The sampler operation of an edge leaves legal registers, except that `nbits` may have become 16; then S.COMPLETE
follows. -/
theorem samplerOp_next {u s1 t : State}
    (hop : s1 = u ∨ (∃ sr, s1 = { u with sampler.sr := sr, sampler.nbits := u.sampler.nbits + 1#5 }) ∨
      s1 = raise .framingAnomaly (frameBoundary u))
    (hend : (t = s1 ∧ s1.sampler.nbits ≠ 16#5) ∨ (s1.sampler.nbits = 16#5 ∧ execSComplete s1 = .next t)) :
    ∃ r : Sampler, (u.sampler.Legal u.cfg → r.Legal u.cfg) ∧
      (t = { u with sampler := r } ∨ ∃ f, dispatch f { u with sampler := r } = .next t) := by
  have key : ∃ r : Sampler, s1 = { u with sampler := r } ∧
      (u.sampler.Legal u.cfg → (r.nbits ≠ 16#5 → r.Legal u.cfg) ∧ r.frameDropped < 2 ^ u.cfg.wFc) := by
    rcases hop with rfl | ⟨sr, rfl⟩ | rfl
    · exact ⟨s1.sampler, rfl, fun ⟨hbits, htotal, hdropped⟩ => ⟨fun _ => ⟨hbits, htotal, hdropped⟩, hdropped⟩⟩
    · refine ⟨_, rfl, fun ⟨hbits, htotal, hdropped⟩ => ⟨fun h16 => ⟨?_, htotal, hdropped⟩, hdropped⟩⟩
      dsimp only at h16 ⊢
      bv_omega
    · exact ⟨_, rfl, fun _ => ⟨fun _ => ⟨Nat.zero_le _, wrapFc_lt _ _, wrapFc_lt _ _⟩, wrapFc_lt _ _⟩⟩
  obtain ⟨r, rfl, hr⟩ := key
  rcases hend with ⟨ht, h16⟩ | ⟨_, hc⟩
  · refine ⟨r, fun hs => ?_, .inl ht⟩
    obtain ⟨hlegal, _⟩ := hr hs
    exact hlegal h16
  · rw [execSComplete_eq] at hc
    refine ⟨{ r with nbits := 0#5, frameTotal := wrapFc u.cfg (r.frameTotal + 1) }, fun hs => ?_, .inr ⟨_, hc⟩⟩
    obtain ⟨_, hdropped⟩ := hr hs
    exact ⟨Nat.zero_le _, wrapFc_lt _ _, hdropped⟩

/-- A clock edge: the forced release, new sampler registers, and at the sixteenth bit the operation of the frame. -/
theorem clockEdge_next {d l : Level} {s t : State} (h : clockEdge d l s = .next t) :
    ∃ r : Sampler, (s.sampler.Legal s.cfg → r.Legal s.cfg) ∧
      (t = { edgeStart l s with sampler := r } ∨ ∃ f, dispatch f { edgeStart l s with sampler := r } = .next t) := by
  obtain ⟨s1, hop, hend⟩ := clockEdge_cases h
  obtain ⟨r, hr, ht⟩ := samplerOp_next hop hend
  rw [edgeStart_sampler, edgeStart_cfg] at hr
  exact ⟨r, hr, ht⟩

/-! ## The Display Decoder keeps its registers legal -/

/-- The legal registers of the display decoder. -/
structure Display.Legal (c : Cfg) (d : Display) : Prop where
  counters : d.CountersLegal c
  blink : d.BlinkLegal
  kinds : d.KindsLegal c

section
variable {c : Cfg} {fc : Nat} {v : Composite} {d : Display}

/-- Without a candidate the kinds and the blink registers stay legal, whatever `blinking` becomes (R139, R141). -/
theorem Display.Legal.clearPending (b : Bool) (h : d.Legal c) :
    { d with blinking := b, blinkPending := none, blinkStab := 0#8 }.Legal c := by
  obtain ⟨hactual, hdesired, _, hcand, hduration⟩ := h.kinds
  have hnone : ∀ v, (none : Option Composite) = some v → isTemp c v = true := fun _ e => nomatch e
  exact {
    counters := h.counters
    blink := ⟨fun _ => rfl, fun _ => rfl⟩
    kinds := ⟨hactual, hdesired, hnone, hcand, hduration⟩ }

theorem blankAccepted_legal (h : d.Legal c) : (blankAccepted c d).Legal c := by
  obtain ⟨hactual, _, hpending, hcand, hduration⟩ := h.kinds
  rcases blankAccepted_cases c d with ⟨_, e⟩ | ⟨_, _, e⟩ | ⟨_, _, e⟩ <;> rw [e]
  · exact { h.clearPending true with }
  · have hpublish : { d with pubDesired := d.blinkPending }.Legal c :=
      { h with kinds := ⟨hactual, hpending, hpending, hcand, hduration⟩ }
    exact { hpublish.clearPending d.blinking with }
  · exact { h.clearPending d.blinking with }

theorem confirmedBlank_legal (hfc : fc < 2 ^ c.wFc) (h : d.Legal c) : (confirmedBlank c fc d).Legal c := by
  obtain ⟨hstable, hblank, hactual, hlast⟩ := h.counters
  rcases confirmedBlank_cases c fc d with ⟨_, e⟩ | ⟨h0, _, e⟩ | ⟨_, e⟩ <;> rw [e]
  · exact { h with counters := ⟨hstable, hblank, hactual, hfc⟩ }
  · exact { h with counters := ⟨hstable, by dsimp only; bv_omega, hactual, hlast⟩ }
  · exact blankAccepted_legal { h with counters := ⟨hstable, count_zero_le _, hactual, hfc⟩ }

theorem tempBlinking_legal {age : Nat} (hv : isTemp c v = true) (hb : d.blinking = true) (h : d.Legal c) :
    (tempBlinking c v age d).Legal c := by
  obtain ⟨hclosed, _⟩ := h.blink
  obtain ⟨hactual, hdesired, _, hcand, hduration⟩ := h.kinds
  rcases tempBlinking_cases c v age d with ⟨hp, e⟩ | ⟨_, _, e⟩ | ⟨_, _, e⟩ <;> rw [e]
  · exact { h with blink := ⟨hclosed, fun hn => (by rw [hp] at hn; cases hn)⟩ }
  · exact {
      counters := h.counters
      blink := ⟨fun hf => (by rw [hb] at hf; cases hf), nofun⟩
      kinds := ⟨hactual, hdesired, fun _ e => Option.some.inj e ▸ hv, hcand, hduration⟩ }
  · exact h

theorem tempSteady_legal (hc : c.accepted = true) (hv : isTemp c v = true) (h : d.Legal c) :
    (tempSteady c v d).Legal c := by
  obtain ⟨_, hreload, _, _⟩ := counts_of_accepted hc
  obtain ⟨hstable, hblank, ⟨hpos, hle⟩, hlast⟩ := h.counters
  obtain ⟨hactual, hdesired, hpending, hcand, hduration⟩ := h.kinds
  have full : 0#8 < c.confirmActual ∧ c.confirmActual ≤ c.confirmActual := ⟨hreload, BitVec.le_refl _⟩
  rcases tempSteady_cases c v d with ⟨_, _, e⟩ | ⟨_, h1, e⟩ | ⟨_, e⟩ <;> rw [e]
  · exact {
      counters := ⟨hstable, hblank, full, hlast⟩
      blink := h.blink
      kinds := ⟨fun _ e => Option.some.inj e ▸ hv, hdesired, hpending, hcand, hduration⟩ }
  · exact { h with counters := ⟨hstable, hblank, by dsimp only; bv_omega, hlast⟩ }
  · exact {
      counters := ⟨hstable, hblank, full, hlast⟩
      blink := h.blink
      kinds := ⟨hactual, hdesired, hpending, fun _ e => Option.some.inj e ▸ hv, hduration⟩ }

theorem handleValue_legal {age : Nat} (hc : c.accepted = true) (h : d.Legal c) : (handleValue c v age d).Legal c := by
  obtain ⟨hactual, hdesired, hpending, hcand, _⟩ := h.kinds
  rcases handleValue_cases c v age d with ⟨_, e⟩ | ⟨ht, hb, e⟩ | ⟨ht, _, e⟩ | ⟨_, _, hd, e⟩ | ⟨_, _, _, e⟩ <;> rw [e]
  · exact { h with }
  · exact tempBlinking_legal ht hb h
  · exact tempSteady_legal hc ht h
  · exact { h with kinds := ⟨hactual, hdesired, hpending, hcand, fun _ e => Option.some.inj e ▸ hd⟩ }
  · exact h

theorem endBlinkEpisode_legal (h : d.Legal c) : (endBlinkEpisode d).Legal c := h.clearPending false

theorem confirmed_legal (hc : c.accepted = true) (hfc : fc < 2 ^ c.wFc) (h : d.Legal c) :
    (confirmed c fc v d).Legal c := by
  unfold confirmed confirmedValue
  split
  · exact confirmedBlank_legal hfc h
  · apply handleValue_legal hc
    split
    · exact endBlinkEpisode_legal h
    · exact h

theorem processComposite_legal (hc : c.accepted = true) (hfc : fc < 2 ^ c.wFc) (h : d.Legal c) :
    (processComposite c fc v d).Legal c := by
  obtain ⟨hreload, _, _, _⟩ := counts_of_accepted hc
  obtain ⟨⟨hpos, hle⟩, hblank, hactual, hlast⟩ := h.counters
  have full : 0#8 < c.confirmDisp ∧ c.confirmDisp ≤ c.confirmDisp := ⟨hreload, BitVec.le_refl _⟩
  rcases processComposite_cases c fc v d with ⟨_, e⟩ | ⟨_, h1, e⟩ | ⟨_, _, e⟩ <;> rw [e]
  · exact { h with counters := ⟨full, BitVec.le_refl _, hactual, hlast⟩ }
  · exact { h with counters := ⟨by dsimp only; bv_omega, hblank, hactual, hlast⟩ }
  · exact confirmed_legal hc hfc { h with counters := ⟨full, hblank, hactual, hlast⟩ }

theorem digitFrame_legal {k : Pos} {f : Frame} (hc : c.accepted = true) (hfc : fc < 2 ^ c.wFc) (h : d.Legal c) :
    (digitFrame c fc k f d).Legal c := by
  rcases digitFrame_cases c fc k f d with ⟨_, e⟩ | ⟨ch, _, _, _, e⟩ | ⟨ch, _, _, _, e⟩ <;> rw [e]
  · exact h
  · exact { h with }
  · exact processComposite_legal hc hfc { h with }

end

/-! ## Every input keeps the legal states -/

section
variable {s t : State}

theorem State.Legal.display (h : s.Legal) : s.display.Legal s.cfg := ⟨h.counters, h.blink, h.kinds⟩

/-- New display registers that are legal leave a legal state. -/
theorem State.Legal.withDisplay {d : Display} (h : s.Legal) (hd : d.Legal s.cfg) : { s with display := d }.Legal :=
  { h with counters := hd.counters, blink := hd.blink, kinds := hd.kinds }

theorem SetsCommand.legal (ht : SetsCommand (s.fg.cmd.Legal s.cfg) s t) (h : s.Legal) : t.Legal := by
  obtain ⟨cmd, r, rfl, hcmd⟩ := ht
  exact { h with cmd := hcmd h.cmd }

theorem digitState_legal (k : Pos) (f : Frame) (h : s.Legal) : (digitState k f s).Legal := by
  obtain ⟨_, htotal, _⟩ := h.sampler
  exact h.withDisplay (digitFrame_legal h.cfg htotal h.display)

/-- An echo arms RPG, so the data pin has to be released before it. -/
theorem buttonEcho_legal (b : Button) (h : s.Legal) (hr : s.reply.rpg = .idle) : (buttonEcho b s).Legal := by
  rcases buttonEcho_cases b s with ⟨_, e⟩ | ⟨h0, e⟩ <;> rw [e]
  · exact h
  · obtain ⟨hle, habsent⟩ := h.press b
    have hpin : s.reply.dataPin ≠ .drivenLow := fun e => by have := h.reply.mp e; rw [hr] at this; cases this
    have hpred : s.press.get b - 1#8 ≤ s.cfg.pressCount := by bv_omega
    exact { h with
      press := PressFile.set_legal h.press hpred fun hb => (h0 (habsent hb)).elim
      reply := ⟨fun e => (hpin e).elim, nofun⟩ }

theorem publishLed_legal {f : Frame} (hf : hits f s.cfg.ledMark = true) (h : s.Legal) : (publishLed f s).Legal := by
  obtain ⟨_, _, hreload, _⟩ := counts_of_accepted h.cfg
  obtain ⟨_, hlatest, _⟩ := h.led
  refine { h with
    led := ⟨⟨hreload, BitVec.le_refl _⟩, hlatest, fun _ e => Option.some.inj e ▸ hf⟩
    pulse := ⟨fun _ => nofun, fun _ => nofun⟩
    press := ?_ }
  rw [publishLed_press]
  split
  · exact PressFile.zero_legal _
  · exact h.press

theorem execFLed_legal {f : Frame} (hf : hits f s.cfg.ledMark = true) (h : s.Legal) (ht : execFLed f s = .next t) :
    t.Legal := by
  obtain ⟨_, _, hreload, _⟩ := counts_of_accepted h.cfg
  obtain ⟨⟨hpos, hle⟩, hlatest, hpub⟩ := h.led
  rcases execFLed_cases f s with ⟨_, e⟩ | ⟨_, h1, e⟩ | ⟨_, _, e⟩ <;> (rw [e] at ht; obtain rfl := next_inj ht)
  · exact { h with led := ⟨⟨hreload, BitVec.le_refl _⟩, fun _ e => Option.some.inj e ▸ hf, hpub⟩ }
  · exact { h with led := ⟨by dsimp only; bv_omega, hlatest, hpub⟩ }
  · exact publishLed_legal hf h

theorem dispatch_legal {f : Frame} (h : s.Legal) (hr : s.reply.rpg = .idle) (ht : dispatch f s = .next t) :
    t.Legal := by
  rcases dispatch_cases f s with e | ⟨k, e⟩ | ⟨hf, e⟩ | ⟨b, e⟩ <;> rw [e] at ht
  · exact next_inj ht ▸ h
  · exact next_inj ht ▸ digitState_legal k f h
  · exact execFLed_legal hf h ht
  · exact next_inj ht ▸ buttonEcho_legal b h hr

theorem edgeStart_legal (l : Level) (h : s.Legal) : (edgeStart l s).Legal := by
  have hpin := edgeStart_dataPin l h.reply
  have hreply : (edgeStart l s).reply.Legal := by
    unfold ReplyGen.Legal
    rw [hpin, edgeStart_rpg]
    exact ⟨nofun, nofun⟩
  rw [edgeStart_eq] at hreply ⊢
  exact { h with reply := hreply }

theorem clockEdge_legal {d l : Level} (h : s.Legal) (ht : clockEdge d l s = .next t) : t.Legal := by
  obtain ⟨r, hr, hend⟩ := clockEdge_next ht
  have hbase : { edgeStart l s with sampler := r }.Legal :=
    { edgeStart_legal l h with sampler := by rw [edgeStart_cfg]; exact hr h.sampler }
  rcases hend with rfl | ⟨f, hf⟩
  · exact hbase
  · exact dispatch_legal hbase (edgeStart_rpg l s) hf

theorem fgAction_legal (h : s.Legal) : (fgAction s).Legal := by
  obtain ⟨f, hf, hset⟩ := fgAction_setsCommand s
  exact SetsCommand.legal hset { h with press := hf h }

theorem liveness_legal (h : s.Legal) : (liveness s).Legal := by
  obtain ⟨hupdated, _⟩ := h.pulse
  rcases liveness_cases s with ⟨hu, e⟩ | ⟨_, e⟩ | ⟨_, e⟩ <;> rw [e]
  · exact { h with pulse := ⟨nofun, fun _ => hupdated hu⟩ }
  · exact { h with pulse := ⟨hupdated, nofun⟩ }
  · exact h

theorem hostCall_legal {c : HostCall} (h : s.Legal) (ht : hostCall c s = .next t) : t.Legal := by
  obtain ⟨i, hi, he⟩ := hostCall_next ht
  rcases exec_host_cases (decodeCall_isHost hi) he with rfl | hset
  · exact SetsCommand.legal (answer_setsCommand .unit) (liveness_legal h)
  · exact hset.legal h

theorem latchMoves_legal (l : Level) (h : s.Legal) : (latchMoves l s).Legal := by
  rcases latchMoves_cases l s with ⟨seen, hr, e⟩ | ⟨_, e⟩ <;> rw [e]
  · have hpin : s.reply.dataPin ≠ .drivenLow := fun e => by have := h.reply.mp e; rw [hr] at this; cases this
    exact { h with reply := ⟨fun e => (hpin e).elim, nofun⟩ }
  · exact { h with reply := h.reply }

theorem replyStart_legal (h : s.Legal) : (replyStart s).Legal := by
  rcases replyStart_cases s with ⟨_, e⟩ | ⟨_, e⟩ <;> rw [e]
  · exact { h with reply := ⟨fun _ => rfl, fun _ => rfl⟩ }
  · exact h

theorem replyEnd_legal (h : s.Legal) : (replyEnd s).Legal := by
  rcases replyEnd_cases s with ⟨_, e⟩ | ⟨_, e⟩ <;> rw [e]
  · exact { h with reply := ⟨nofun, nofun⟩ }
  · exact h

theorem runEvent_legal {e : Event} (h : s.Legal) (ht : runEvent e s = .next t) : t.Legal := by
  cases e with
  | clk d l => exact clockEdge_legal h ht
  | fg => exact next_inj ht ▸ fgAction_legal h
  | tick => exact next_inj ht ▸ (tick_setsCommand s).legal h
  | now x => exact next_inj ht ▸ { h with }
  | host c => exact hostCall_legal h ht
  | latch l => exact next_inj ht ▸ latchMoves_legal l h
  | replyStart => exact next_inj ht ▸ replyStart_legal h
  | replyEnd => exact next_inj ht ▸ replyEnd_legal h

theorem step_legal (h : s.Legal) (ht : step s = .next t) : t.Legal := by
  rcases step_cases s with ⟨_, e⟩ | ⟨ev, rest, _, e⟩ <;> rw [e] at ht
  · exact next_inj ht ▸ h
  · exact runEvent_legal (s := { s with world.inputs := rest }) { h with } ht

end

/-! ## What a step leaves alone: the configuration, the pulse, the link (R44, R37, R38) -/

section
variable {s t : State}

/-- An input that is no clock edge leaves the configuration and the registers of the interrupt side alone; it never sets
the pulse, and takes the link online only when the pulse is set. -/
theorem runEvent_frame {e : Event} (he : ∀ d l, e ≠ .clk d l) (h : runEvent e s = .next t) :
    ∃ u p r fg w, t = { s with stateUpdated := u, press := p, reply := r, fg := fg, world := w } ∧
      (u = true → s.stateUpdated = true) ∧ (fg.online = true → s.fg.online = true ∨ s.stateUpdated = true) := by
  cases e with
  | clk d l => exact (he d l rfl).elim
  | fg =>
    obtain ⟨f, _, cmd, r, e, _⟩ := fgAction_setsCommand s
    exact ⟨_, _, _, _, _, (next_inj h).symm.trans e, id, .inl⟩
  | tick =>
    obtain ⟨cmd, r, e, _⟩ := tick_setsCommand s
    exact ⟨_, _, _, _, _, (next_inj h).symm.trans e, id, .inl⟩
  | now x => exact ⟨_, _, _, _, _, (next_inj h).symm, id, .inl⟩
  | host c =>
    obtain ⟨i, hi, hexec⟩ := hostCall_next h
    rcases exec_host_cases (decodeCall_isHost hi) hexec with rfl | ⟨cmd, r, rfl, _⟩
    · rcases liveness_cases s with ⟨hu, e⟩ | ⟨_, e⟩ | ⟨_, e⟩ <;> rw [e]
      · exact ⟨_, _, _, _, _, rfl, nofun, fun _ => .inr hu⟩
      · exact ⟨_, _, _, _, _, rfl, id, nofun⟩
      · exact ⟨_, _, _, _, _, rfl, id, .inl⟩
    · exact ⟨_, _, _, _, _, rfl, id, .inl⟩
  | latch l => exact ⟨_, _, _, _, _, (next_inj h).symm, id, .inl⟩
  | replyStart =>
    obtain rfl := next_inj h
    rcases replyStart_cases s with ⟨_, e⟩ | ⟨_, e⟩ <;> exact ⟨_, _, _, _, _, e, id, .inl⟩
  | replyEnd =>
    obtain rfl := next_inj h
    rcases replyEnd_cases s with ⟨_, e⟩ | ⟨_, e⟩ <;> exact ⟨_, _, _, _, _, e, id, .inl⟩

/-- A frame operation sets the pulse only with the publish of the LED reference (R161). -/
theorem dispatch_pulse {f : Frame} (h : dispatch f s = .next t) (hs : s.stateUpdated = false)
    (ht : t.stateUpdated = true) : s.led.cnt = 1#8 ∧ t.led.pubLed = s.led.latest ∧ t.led.pubLed ≠ none := by
  have unset : t.stateUpdated ≠ s.stateUpdated := by rw [hs, ht]; decide
  rcases dispatch_cases f s with e | ⟨k, e⟩ | ⟨_, e⟩ | ⟨b, e⟩ <;> rw [e] at h
  · obtain rfl := next_inj h; exact (unset rfl).elim
  · obtain rfl := next_inj h; exact (unset rfl).elim
  · rcases execFLed_cases f s with ⟨_, e⟩ | ⟨_, _, e⟩ | ⟨hlatest, hcnt, e⟩ <;>
      (rw [e] at h; obtain rfl := next_inj h)
    · exact (unset rfl).elim
    · exact (unset rfl).elim
    · exact ⟨hcnt, hlatest.symm, nofun⟩
  · obtain rfl := next_inj h
    rcases buttonEcho_cases b s with ⟨_, e⟩ | ⟨_, e⟩ <;> (rw [e] at unset; exact (unset rfl).elim)

/-- A clock edge leaves the configuration and the foreground's registers alone (R44, R230). -/
theorem clockEdge_frame {d l : Level} (h : clockEdge d l s = .next t) : t.cfg = s.cfg ∧ t.fg = s.fg := by
  obtain ⟨r, _, rfl | ⟨f, hf⟩⟩ := clockEdge_next h
  · exact ⟨edgeStart_cfg l s, edgeStart_fg l s⟩
  · obtain ⟨_, _, _, _, _, _, e⟩ := dispatch_frame f { edgeStart l s with sampler := r }
    obtain rfl := next_inj (e.symm.trans hf)
    exact ⟨edgeStart_cfg l s, edgeStart_fg l s⟩

theorem clockEdge_pulse {d l : Level} (h : clockEdge d l s = .next t) (hs : s.stateUpdated = false)
    (ht : t.stateUpdated = true) : s.led.cnt = 1#8 ∧ t.led.pubLed = s.led.latest ∧ t.led.pubLed ≠ none := by
  rw [← edgeStart_stateUpdated l] at hs
  obtain ⟨r, _, rfl | ⟨f, hf⟩⟩ := clockEdge_next h
  · exact absurd (hs.symm.trans ht) (by decide)
  · rw [← edgeStart_led l s]
    exact dispatch_pulse (s := { edgeStart l s with sampler := r }) hf hs ht

theorem Event.clk_or_not (e : Event) : (∃ d l, e = .clk d l) ∨ ∀ d l, e ≠ .clk d l := by
  cases e with
  | clk d l => exact .inl ⟨d, l, rfl⟩
  | _ => exact .inr nofun

theorem runEvent_cfg {e : Event} (h : runEvent e s = .next t) : t.cfg = s.cfg := by
  rcases e.clk_or_not with ⟨d, l, rfl⟩ | he
  · obtain ⟨hcfg, _⟩ := clockEdge_frame h
    exact hcfg
  · obtain ⟨_, _, _, _, _, rfl, _⟩ := runEvent_frame he h
    rfl

theorem step_cfg (h : step s = .next t) : t.cfg = s.cfg := by
  rcases step_cases s with ⟨_, e⟩ | ⟨ev, rest, _, e⟩ <;> rw [e] at h
  · rw [next_inj h]
  · exact runEvent_cfg (s := { s with world.inputs := rest }) h

/-- The pulse is set only with an LED publish, the link comes online only with the pulse set (R37, R38). -/
theorem runEvent_pulse {e : Event} (h : runEvent e s = .next t) :
    (s.stateUpdated = false → t.stateUpdated = true →
      s.led.cnt = 1#8 ∧ t.led.pubLed = s.led.latest ∧ t.led.pubLed ≠ none) ∧
    (s.fg.online = false → t.fg.online = true → s.stateUpdated = true) := by
  rcases e.clk_or_not with ⟨d, l, rfl⟩ | he
  · refine ⟨clockEdge_pulse h, fun hs ht => ?_⟩
    obtain ⟨_, hfg⟩ := clockEdge_frame h
    rw [hfg, hs] at ht
    cases ht
  · obtain ⟨_, _, _, _, _, rfl, hu, honline⟩ := runEvent_frame he h
    refine ⟨fun hs ht => ?_, fun hs ht => ?_⟩
    · rw [hu ht] at hs; cases hs
    · rcases honline ht with h' | h'
      · rw [h'] at hs; cases hs
      · exact h'

end

/-! ## Construction (R47, R250) -/

theorem construct_accepted {cfg : Cfg} (h : cfg.accepted = true) (now : Millis) :
    construct cfg now = .next (State.fresh cfg now) := if_pos h

theorem construct_refused {cfg : Cfg} (h : cfg.accepted = false) (now : Millis) :
    construct cfg now = .refused .badConfig := if_neg (by rw [h]; decide)

/-- What construction answers is the fresh state of an accepted configuration. -/
theorem construct_next {cfg : Cfg} {now : Millis} {t : State} (h : construct cfg now = .next t) :
    cfg.accepted = true ∧ t = State.fresh cfg now := by
  cases hc : cfg.accepted with
  | true => rw [construct_accepted hc] at h; exact ⟨rfl, (next_inj h).symm⟩
  | false => rw [construct_refused hc] at h; cases h

theorem fresh_legal {cfg : Cfg} (h : cfg.accepted = true) (now : Millis) : (State.fresh cfg now).Legal := by
  obtain ⟨hdisp, hactual, hled, _⟩ := counts_of_accepted h
  have hkind : ∀ (P : Composite → Prop) v, (none : Option Composite) = some v → P v := fun _ _ e => nomatch e
  have hmark : ∀ (P : Frame → Prop) l, (none : Option Frame) = some l → P l := fun _ _ e => nomatch e
  exact {
    cfg := h
    sampler := ⟨Nat.zero_le _, Nat.two_pow_pos _, Nat.two_pow_pos _⟩
    counters := ⟨⟨hdisp, BitVec.le_refl _⟩, BitVec.le_refl _, ⟨hactual, BitVec.le_refl _⟩, Nat.two_pow_pos _⟩
    blink := ⟨fun _ => rfl, fun _ => rfl⟩
    kinds := ⟨hkind _, hkind _, hkind _, hkind _, hkind _⟩
    led := ⟨⟨hled, BitVec.le_refl _⟩, hmark _, hmark _⟩
    pulse := ⟨nofun, nofun⟩
    press := PressFile.zero_legal cfg
    reply := ⟨nofun, nofun⟩
    cmd := trivial }

theorem ref9_accepted : Cfg.ref9.accepted = true := by decide +kernel

end Sys2Proof.Machine

namespace Sys2Proof.Claims

open Sys2Proof Sys2Proof.Machine

/-- Settles O55: the invariant `State.Legal` is kept by every input of the environment. -/
theorem stepKeepsLegal : Obligations.StepKeepsLegal := fun _ _ hs ht => step_legal hs ht

/-- Settles O56. -/
theorem configurationIsReadOnly : Obligations.ConfigurationIsReadOnly := by
  refine ⟨fun _ _ ht => step_cfg ht, fun cfg now t ht => ?_⟩
  obtain ⟨_, rfl⟩ := construct_next ht
  rfl

/-- Settles O59: a step without an input changes nothing, and every input obeys `runEvent_pulse`. -/
theorem pulseComesFromTheLedPublish : Obligations.PulseComesFromTheLedPublish := by
  intro s t ht
  rcases step_cases s with ⟨_, e⟩ | ⟨ev, rest, _, e⟩ <;> rw [e] at ht
  · obtain rfl := next_inj ht
    exact ⟨fun hs ht => absurd (hs.symm.trans ht) (by decide), fun hs ht => absurd (hs.symm.trans ht) (by decide)⟩
  · exact runEvent_pulse (s := { s with world.inputs := rest }) ht

/-- Settles O53: the registers are those of `State.fresh`. -/
theorem constructionStartsUndefined : Obligations.ConstructionStartsUndefined := by
  intro cfg now
  refine ⟨fun h => construct_refused h now, fun h => ⟨_, construct_accepted h now, ?_⟩⟩
  have hpress : ∀ b, (State.fresh cfg now).press.get b = 0#8 := PressFile.get_zero
  simp only [hpress]
  simp [State.fresh]

/-- Settles O54. -/
theorem freshInstanceIsLegal : Obligations.FreshInstanceIsLegal :=
  ⟨fun _ now h => fresh_legal h now, fresh_legal ref9_accepted _⟩

end Sys2Proof.Claims

/-! SUPPORT. The single-writer rule: what each of the two contexts, the clock edge and everything else, may do to a press
counter, and the statement about both settled from it. -/

namespace Sys2Proof.Machine

/-! ## The two writers of a press counter (R45) -/

/-- What a clock edge may make of a press counter: the same, 0, or one less (R161, R171). -/
def EdgePress (n n' : Count) : Prop := n' = n ∨ n' = 0#8 ∨ (n ≠ 0#8 ∧ n' = n - 1#8)

/-- What any other input may make of the press counter of `b`: the same, 0, or armed; never armed for TEMP_UNIT (R177). -/
def ForegroundPress (c : Cfg) (b : Button) (n n' : Count) : Prop :=
  n' = n ∨ n' = 0#8 ∨ (b ≠ .tempUnit ∧ (n' = c.pressCount ∨ n' = c.pressShortCount))

/-! ## The clock edge -/

section
variable {s t : State}

/-- An echo takes one from the counter of its own button. -/
theorem buttonEcho_edgePress (b b' : Button) (s : State) :
    EdgePress (s.press.get b') ((buttonEcho b s).press.get b') := by
  rcases buttonEcho_cases b s with ⟨_, e⟩ | ⟨h0, e⟩ <;> rw [e]
  · exact .inl rfl
  · rw [startReply_press, setPress_press]
    by_cases hb : b' = b
    · subst hb; rw [PressFile.get_set_same]; exact .inr (.inr ⟨h0, rfl⟩)
    · rw [PressFile.get_set_other _ _ hb]; exact .inl rfl

/-- A publish with an active buzzer writes 0, one without keeps the counter. -/
theorem publishLed_edgePress (f : Frame) (b : Button) (s : State) :
    EdgePress (s.press.get b) ((publishLed f s).press.get b) := by
  rw [publishLed_press]
  split
  · exact .inr (.inl (PressFile.get_zero b))
  · exact .inl rfl

theorem dispatch_edgePress {f : Frame} (h : dispatch f s = .next t) (b : Button) :
    EdgePress (s.press.get b) (t.press.get b) := by
  rcases dispatch_cases f s with e | ⟨k, e⟩ | ⟨_, e⟩ | ⟨b', e⟩ <;> rw [e] at h
  · obtain rfl := next_inj h; exact .inl rfl
  · obtain rfl := next_inj h; exact .inl rfl
  · rcases execFLed_cases f s with ⟨_, e⟩ | ⟨_, _, e⟩ | ⟨_, _, e⟩ <;> (rw [e] at h; obtain rfl := next_inj h)
    · exact .inl rfl
    · exact .inl rfl
    · exact publishLed_edgePress f b s
  · obtain rfl := next_inj h; exact buttonEcho_edgePress b' b s

theorem clockEdge_edgePress {d l : Level} (h : clockEdge d l s = .next t) (b : Button) :
    EdgePress (s.press.get b) (t.press.get b) := by
  rw [← edgeStart_press l s]
  obtain ⟨r, _, rfl | ⟨f, hf⟩⟩ := clockEdge_next h
  · exact .inl rfl
  · exact dispatch_edgePress hf b

/-- Of the host's side of the world a clock edge changes neither the result nor the time (log 12). -/
theorem clockEdge_host {d l : Level} (h : clockEdge d l s = .next t) :
    t.world.result = s.world.result ∧ t.world.nowMs = s.world.nowMs := by
  obtain ⟨r, _, rfl | ⟨f, hf⟩⟩ := clockEdge_next h
  · exact ⟨edgeStart_result l s, edgeStart_nowMs l s⟩
  · obtain ⟨_, _, _, _, _, _, e⟩ := dispatch_frame f { edgeStart l s with sampler := r }
    obtain rfl := next_inj (e.symm.trans hf)
    exact ⟨edgeStart_result l s, edgeStart_nowMs l s⟩

end

/-! ## Every other input -/

section
variable {s t : State}

theorem SetsCommand.press {L : Prop} (h : SetsCommand L s t) : t.press = s.press := by
  obtain ⟨_, _, rfl, _⟩ := h
  rfl

theorem liveness_press (s : State) : (liveness s).press = s.press := by
  rcases liveness_cases s with ⟨_, e⟩ | ⟨_, e⟩ | ⟨_, e⟩ <;> rw [e]

theorem hostCall_press {c : HostCall} (h : hostCall c s = .next t) : t.press = s.press := by
  obtain ⟨i, hi, he⟩ := hostCall_next h
  rcases exec_host_cases (decodeCall_isHost hi) he with rfl | hset
  · rw [answer_press, liveness_press]
  · exact hset.press

/-- Only FG's next action writes press counters outside a clock edge. -/
theorem runEvent_press {e : Event} (hclk : ∀ d l, e ≠ .clk d l) (hfg : e ≠ .fg) (h : runEvent e s = .next t) :
    t.press = s.press := by
  cases e with
  | clk d l => exact (hclk d l rfl).elim
  | fg => exact (hfg rfl).elim
  | tick => rw [← next_inj h]; exact (tick_setsCommand s).press
  | now x => rw [← next_inj h]
  | host c => exact hostCall_press h
  | latch l => rw [← next_inj h, latchMoves_eq]
  | replyStart => rw [← next_inj h]; rcases replyStart_cases s with ⟨_, e⟩ | ⟨_, e⟩ <;> rw [e]
  | replyEnd => rw [← next_inj h]; rcases replyEnd_cases s with ⟨_, e⟩ | ⟨_, e⟩ <;> rw [e]

/-- Arming a legal press, or clearing a counter, writes one counter by the rule. -/
theorem PressFile.set_foregroundPress {c : Cfg} {b : Button} {n : Count} (f : PressFile) (b' : Button)
    (hn : n = 0#8 ∨ (mayPress c b = true ∧ armCount c n = true)) :
    ForegroundPress c b' (f.get b') ((f.set b n).get b') := by
  by_cases hb : b' = b
  · subst hb
    rw [PressFile.get_set_same]
    rcases hn with h0 | ⟨hmay, harm⟩
    · exact .inr (.inl h0)
    · obtain ⟨hunit, _⟩ := (mayPress_iff c b').mp hmay
      simp only [armCount, Bool.or_eq_true, beq_iff_eq] at harm
      exact .inr (.inr ⟨hunit, harm⟩)
  · rw [PressFile.get_set_other _ _ hb]; exact .inl rfl

theorem Point.pressAfter_foregroundPress {c : Cfg} {p : Point} (hp : p.Legal c) (f : PressFile) (b : Button) :
    ForegroundPress c b (f.get b) ((p.pressAfter f).get b) := by
  cases p with
  | arm b' n k =>
    obtain ⟨hmay, harm, _⟩ := hp
    exact PressFile.set_foregroundPress f b (.inr ⟨hmay, harm⟩)
  | disarm b' ok k => exact PressFile.set_foregroundPress f b (.inl rfl)
  | _ => exact .inl rfl

theorem fgAction_foregroundPress (h : s.fg.cmd.Legal s.cfg) (b : Button) :
    ForegroundPress s.cfg b (s.press.get b) ((fgAction s).press.get b) := by
  rcases fgAction_cases s with ⟨op, p, hcmd, e⟩ | ⟨_, e⟩ <;> rw [e]
  · rw [hcmd] at h
    rw [(act_setsCommand op p s).press]
    exact Point.pressAfter_foregroundPress h s.press b
  · exact .inl rfl

theorem runEvent_foregroundPress {e : Event} (hclk : ∀ d l, e ≠ .clk d l) (h : runEvent e s = .next t)
    (hs : s.fg.cmd.Legal s.cfg) (b : Button) : ForegroundPress s.cfg b (s.press.get b) (t.press.get b) := by
  by_cases hfg : e = .fg
  · subst hfg; rw [← next_inj h]; exact fgAction_foregroundPress hs b
  · rw [runEvent_press hclk hfg h]; exact .inl rfl

end

end Sys2Proof.Machine

namespace Sys2Proof.Claims

open Sys2Proof Sys2Proof.Machine

/-- Settles O58: the frame and the press rule of the clock edge, and those of every other input. -/
theorem contextsWriteTheirOwnRegisters : Obligations.ContextsWriteTheirOwnRegisters := by
  refine ⟨fun s t d l ht => ?_, fun s t e he ht => ?_⟩
  · obtain ⟨_, hfg⟩ := clockEdge_frame ht
    obtain ⟨hresult, hnow⟩ := clockEdge_host ht
    exact ⟨hfg, hresult, hnow, clockEdge_edgePress ht⟩
  · have hpress := runEvent_foregroundPress he ht
    obtain ⟨_, _, _, _, _, rfl, _⟩ := runEvent_frame he ht
    exact ⟨rfl, rfl, rfl, fun hs => hpress hs.cmd⟩

end Sys2Proof.Claims

/-! SUPPORT. Selection and encoding: the masks of a well-formed configuration, the tests that select a frame operation, the
names that select a host operation, and the glyph table; the statements about encoding settled from them. -/

namespace Sys2Proof

/-! ## Masks -/

theorem hits_comm (a b : Mask) : hits a b = hits b a := by
  unfold hits; rw [BitVec.and_comm]

@[simp] theorem zero_hits (m : Mask) : hits 0#16 m = false := by simp [hits]

theorem or_hits (a b m : Mask) : hits (a ||| b) m = (hits a m || hits b m) := by
  have hdist : (a ||| b) &&& m = (a &&& m) ||| (b &&& m) := by ext i; simp [Bool.and_or_distrib_right]
  rw [Bool.eq_iff_iff]
  simp only [hits, hdist, bne_iff_ne, ne_eq, BitVec.or_eq_zero_iff, Bool.or_eq_true]
  exact Classical.not_and_iff_not_or_not

theorem hits_or (f a b : Mask) : hits f (a ||| b) = (hits f a || hits f b) := by
  rw [hits_comm, or_hits, hits_comm a, hits_comm b]

theorem ite_hits (b : Bool) (m m' : Mask) : hits (if b then m else 0#16) m' = (b && hits m m') := by
  cases b <;> simp

/-- A frame with a bit of a mask has a bit of every mask around it. -/
theorem hits_of_subset {f m any : Mask} (hsub : m &&& any = m) (h : hits f m = true) : hits f any = true := by
  have hor : any = any ||| m := by rw [← hsub]; ext i; simp
  rw [hor, hits_or, h, Bool.or_true]

/-- Two single bits meet exactly when they are the same bit. -/
theorem hits_of_oneBit {m m' : Mask} (h : oneBit m = true) (h' : oneBit m' = true) : hits m m' = decide (m = m') := by
  simp only [oneBit, List.any_eq_true, List.mem_range, beq_iff_eq] at h h'
  obtain ⟨i, hi, rfl⟩ := h
  obtain ⟨j, hj, rfl⟩ := h'
  revert i j
  decide

/-! ## What a well-formed configuration guarantees (R11) -/

section
variable {c : Cfg}

/-- The constraints of R11 that selection and encoding rest on. -/
theorem constraints_of_wellFormed (h : c.wellFormed = true) :
    c.w1 = true ∧ c.w2 = true ∧ c.w5 = true ∧ c.w6 = true ∧ c.w7 = true := by
  simp only [Cfg.wellFormed, Bool.and_eq_true] at h
  obtain ⟨⟨⟨⟨⟨⟨⟨⟨⟨h1, h2⟩, _⟩, _⟩, h5⟩, h6⟩, h7⟩, _⟩, _⟩, _⟩ := h
  exact ⟨h1, h2, h5, h6, h7⟩

/-- R11 w6. -/
theorem cue_ne_zero (h : c.wellFormed = true) : c.cue ≠ 0#16 := by
  obtain ⟨_, _, _, h6, _⟩ := constraints_of_wellFormed h
  exact bne_iff_ne.mp h6

theorem btn_mem_btnBits {b : Button} {m : Mask} (h : c.btn b = some m) : m ∈ c.btnBits := by
  cases b with
  | jet | disinf => cases hv : c.variant <;> simp_all [Cfg.btn, Cfg.btnBits]
  | _ => cases h; simp [Cfg.btnBits]

/-- R11 w5: a frame with the bit of a button is a BUTTON frame. -/
theorem hits_buttonAny {b : Button} {f : Frame} (h : c.wellFormed = true) (hb : (c.btn b).any (hits f) = true) :
    hits f c.buttonAny = true := by
  obtain ⟨m, hm, hf⟩ := (Option.any_eq_true _ _).mp hb
  obtain ⟨_, _, h5, _, _⟩ := constraints_of_wellFormed h
  exact hits_of_subset (beq_iff_eq.mp (List.all_eq_true.mp h5 m (btn_mem_btnBits hm))) hf

/-- Only a button of the variant has a bit (R10). -/
theorem mem_buttons_of_btn {b : Button} {f : Frame} (h : (c.btn b).any (hits f) = true) : b ∈ c.buttons := by
  unfold Cfg.buttons
  cases b with
  | jet | disinf => cases hv : c.variant <;> simp_all [Cfg.btn]
  | _ => cases c.variant <;> decide

/-- R11 w1, w2: a segment bit meets itself and no other one. -/
theorem segBits_hits (h : c.wellFormed = true) :
    (∀ m ∈ c.segBits, hits m m = true) ∧
      c.segBits.Pairwise fun m m' => hits m m' = false ∧ hits m' m = false := by
  obtain ⟨h1, h2, _⟩ := constraints_of_wellFormed h
  have hone : ∀ m ∈ c.segBits, oneBit m = true := fun m hm =>
    List.all_eq_true.mp h1 m (by simp only [List.mem_append, hm, true_or, or_true])
  simp only [Cfg.w2, Bool.and_eq_true, decide_eq_true_eq] at h2
  obtain ⟨⟨⟨_, hdistinct⟩, _⟩, _⟩ := h2
  refine ⟨fun m hm => by simp [hits_of_oneBit (hone m hm) (hone m hm)], hdistinct.imp_of_mem ?_⟩
  intro m m' hm hm' hne
  rw [hits_comm m' m, hits_of_oneBit (hone m hm) (hone m' hm')]
  simp [hne]

/-- R11 w7: no segment set has two characters, and the blank is the one without a segment. -/
theorem glyphs_of_wellFormed (h : c.wellFormed = true) :
    (c.glyphs.map Prod.snd).Nodup ∧ (Glyph.blank, SegSet.mk false false false false false false false) ∈ c.glyphs := by
  obtain ⟨_, _, _, _, h7⟩ := constraints_of_wellFormed h
  simp only [Cfg.w7, Bool.and_eq_true, decide_eq_true_eq, List.contains_iff_mem] at h7
  obtain ⟨⟨⟨_, hsegs⟩, hblank⟩, _⟩ := h7
  exact ⟨hsegs, hblank⟩

end

/-! ## The class of a frame (R82, R90, R93, R120) -/

/-- The tests that select a class, in the order of R120, those before it failing. -/
def FrameOp.Test (c : Cfg) (f : Frame) : FrameOp → Prop
  | .cue => f = c.cue
  | .digit k => f ≠ c.cue ∧ position c f = some k
  | .led => f ≠ c.cue ∧ position c f = none ∧ hits f c.ledMark = true
  | .button b => f ≠ c.cue ∧ position c f = none ∧ hits f c.ledMark = false ∧ hits f c.buttonAny = true ∧
      buttonOf c f = some b
  | .buttonNone => f ≠ c.cue ∧ position c f = none ∧ hits f c.ledMark = false ∧ hits f c.buttonAny = true ∧
      buttonOf c f = none
  | .zero => f ≠ c.cue ∧ position c f = none ∧ hits f c.ledMark = false ∧ hits f c.buttonAny = false ∧ f = 0#16
  | .unknown => f ≠ c.cue ∧ position c f = none ∧ hits f c.ledMark = false ∧ hits f c.buttonAny = false ∧ f ≠ 0#16

section
variable {c : Cfg} {f : Frame}

/-- The frame passes the tests of the class it selects. -/
theorem test_selectFrame (c : Cfg) (f : Frame) : (selectFrame c f).Test c f := by
  unfold selectFrame
  split
  next hcue => simpa [FrameOp.Test] using hcue
  next hcue =>
    split
    next k hpos => simp_all [FrameOp.Test]
    next hpos =>
      split
      next hled => simp_all [FrameOp.Test]
      next hled =>
        split
        next hany => cases hbtn : buttonOf c f <;> simp_all [FrameOp.Test]
        next hany => split <;> simp_all [FrameOp.Test]

/-- The class selected is the one whose tests the frame passes. -/
theorem selectFrame_eq_iff {op : FrameOp} : selectFrame c f = op ↔ op.Test c f := by
  refine ⟨fun h => h ▸ test_selectFrame c f, fun h => ?_⟩
  cases op with
  | zero =>
    obtain ⟨hcue, hpos, hled, hany, rfl⟩ := h
    simp [selectFrame, hcue, hpos, hled, hany]
  | _ => simp only [FrameOp.Test] at h; simp [selectFrame, h]

/-- R90: the least position whose bit the frame has, or none. -/
theorem position_cases (c : Cfg) (f : Frame) :
    (hits f c.pos1 = true ∧ position c f = some .p1) ∨
    (hits f c.pos1 = false ∧ hits f c.pos2 = true ∧ position c f = some .p2) ∨
    (hits f c.pos1 = false ∧ hits f c.pos2 = false ∧ hits f c.pos3 = true ∧ position c f = some .p3) ∨
    (hits f c.pos1 = false ∧ hits f c.pos2 = false ∧ hits f c.pos3 = false ∧ hits f c.pos4 = true ∧
      position c f = some .p4) ∨
    (hits f c.pos1 = false ∧ hits f c.pos2 = false ∧ hits f c.pos3 = false ∧ hits f c.pos4 = false ∧
      position c f = none) := by
  unfold position
  cases hits f c.pos1 with
  | true => exact .inl ⟨rfl, rfl⟩
  | false => cases hits f c.pos2 with
    | true => exact .inr (.inl ⟨rfl, rfl, rfl⟩)
    | false => cases hits f c.pos3 with
      | true => exact .inr (.inr (.inl ⟨rfl, rfl, rfl, rfl⟩))
      | false => cases hits f c.pos4 with
        | true => exact .inr (.inr (.inr (.inl ⟨rfl, rfl, rfl, rfl, rfl⟩)))
        | false => exact .inr (.inr (.inr (.inr ⟨rfl, rfl, rfl, rfl, rfl⟩)))

theorem position_eq_none_iff : position c f = none ↔ hits f c.digitAny = false := by
  simp only [Cfg.digitAny, hits_or, Bool.or_eq_false_iff]
  rcases position_cases c f with ⟨h1, e⟩ | ⟨h1, h2, e⟩ | ⟨h1, h2, h3, e⟩ | ⟨h1, h2, h3, h4, e⟩ | ⟨h1, h2, h3, h4, e⟩
  all_goals simp [*]

end

/-- In a list with `b`, the first element that passes a test is `b` when `b` passes it and nothing before `b` does. -/
theorem find?_eq_some_iff_takeWhile {α : Type} [DecidableEq α] {p : α → Bool} {b : α} {l : List α} (hb : b ∈ l) :
    l.find? p = some b ↔ p b = true ∧ ((l.takeWhile (· != b)).all fun a => !p a) = true := by
  induction l with
  | nil => cases hb
  | cons a l ih =>
    by_cases hab : a = b
    · subst hab
      cases hp : p a with
      | true => simp [hp]
      | false => simp [hp]; exact fun h => by simpa [hp] using List.find?_some h
    · have ih := ih ((List.mem_cons.mp hb).resolve_left (Ne.symm hab))
      cases hp : p a <;> simp_all

section
variable {c : Cfg} {f : Frame}

theorem buttonOf_eq_some_iff {b : Button} :
    buttonOf c f = some b ↔ (c.btn b).any (hits f) = true ∧ c.noEarlierButton b f = true := by
  constructor
  · intro h
    have hbit := List.find?_some h
    exact (find?_eq_some_iff_takeWhile (mem_buttons_of_btn hbit)).mp h
  · rintro ⟨hbit, hbefore⟩
    exact (find?_eq_some_iff_takeWhile (mem_buttons_of_btn hbit)).mpr ⟨hbit, hbefore⟩

theorem buttonOf_eq_none_iff :
    buttonOf c f = none ↔ (c.buttons.all fun b => !(c.btn b).any (hits f)) = true := by
  simp [buttonOf]

/-! ## The tests of a row of the opcode table are those of its class -/

/-- In each case of `position`, the row of the position found has its test and no other row has (R90). -/
theorem fDigit_wellFormed_iff (k : Pos) :
    (Instr.digit k f).wellFormed c = true ↔ (FrameOp.digit k).Test c f := by
  rcases position_cases c f with ⟨h1, e⟩ | ⟨h1, h2, e⟩ | ⟨h1, h2, h3, e⟩ | ⟨h1, h2, h3, h4, e⟩ | ⟨h1, h2, h3, h4, e⟩
  all_goals cases k <;> simp [Instr.digit, Instr.wellFormed, FrameOp.Test, *]

theorem fLed_wellFormed_iff : (Instr.fLed f).wellFormed c = true ↔ FrameOp.led.Test c f := by
  simp [Instr.wellFormed, FrameOp.Test, position_eq_none_iff, and_assoc]

/-- The row of a button asks for no BUTTON bit of its own: R11 w5 gives it. -/
theorem fBtn_wellFormed_iff (hc : c.wellFormed = true) (b : Button) :
    (Instr.button b f).wellFormed c = true ↔ (FrameOp.button b).Test c f := by
  have hrow : (Instr.button b f).wellFormed c = c.buttonTest b f := by cases b <;> rfl
  have hany : buttonOf c f = some b → hits f c.buttonAny = true := fun h => by
    obtain ⟨hbit, _⟩ := buttonOf_eq_some_iff.mp h
    exact hits_buttonAny hc hbit
  rw [hrow]
  simp only [Cfg.buttonTest, FrameOp.Test, position_eq_none_iff, hits_or, Bool.and_eq_true, bne_iff_ne,
    Bool.not_eq_true', Bool.or_eq_false_iff, and_assoc, ← buttonOf_eq_some_iff]
  exact and_congr_right fun _ => and_congr_right fun _ => and_congr_right fun _ =>
    ⟨fun hbtn => ⟨hany hbtn, hbtn⟩, fun ⟨_, hbtn⟩ => hbtn⟩

theorem fBtnNone_wellFormed_iff : (Instr.fBtnNone f).wellFormed c = true ↔ FrameOp.buttonNone.Test c f := by
  simp only [Instr.wellFormed, FrameOp.Test, position_eq_none_iff, hits_or, Bool.and_eq_true, bne_iff_ne,
    Bool.not_eq_true', Bool.or_eq_false_iff, and_assoc, buttonOf_eq_none_iff]

theorem fUnknown_wellFormed_iff : (Instr.fUnknown f).wellFormed c = true ↔ FrameOp.unknown.Test c f := by
  simp only [Instr.wellFormed, FrameOp.Test, position_eq_none_iff, Bool.and_eq_true, bne_iff_ne, Bool.not_eq_true']
  exact ⟨fun ⟨⟨⟨⟨h0, hcue⟩, hpos⟩, hled⟩, hany⟩ => ⟨hcue, hpos, hled, hany, h0⟩,
    fun ⟨hcue, hpos, hled, hany, h0⟩ => ⟨⟨⟨⟨h0, hcue⟩, hpos⟩, hled⟩, hany⟩⟩

/-- R122: the all-zero frame passes no test before its own; that it is not the cue is R11 w6. -/
theorem zero_test_iff (hc : c.wellFormed = true) : FrameOp.zero.Test c f ↔ f = 0#16 := by
  refine ⟨fun ⟨_, _, _, _, h0⟩ => h0, ?_⟩
  rintro rfl
  exact ⟨(cue_ne_zero hc).symm, position_eq_none_iff.mpr (zero_hits _), zero_hits _, zero_hits _, rfl⟩

/-- A frame operation is well-formed and encodes a frame exactly when the frame selects it. -/
theorem frameOp_wellFormed_encode_iff (hc : c.wellFormed = true) (op : FrameOp) :
    (op.instr f).wellFormed c = true ∧ encode c (op.instr f) = .frame f ↔ selectFrame c f = op := by
  rw [selectFrame_eq_iff]
  cases op with
  | cue => simp [FrameOp.instr, Instr.wellFormed, encode, FrameOp.Test, eq_comm (a := f)]
  | zero => rw [zero_test_iff hc]; simp [FrameOp.instr, Instr.wellFormed, encode, eq_comm (a := f)]
  | digit k =>
    have hcode : encode c (Instr.digit k f) = .frame f := by cases k <;> rfl
    exact (and_iff_left hcode).trans (fDigit_wellFormed_iff k)
  | button b =>
    have hcode : encode c (Instr.button b f) = .frame f := by cases b <;> rfl
    exact (and_iff_left hcode).trans (fBtn_wellFormed_iff hc b)
  | led => exact (and_iff_left rfl).trans fLed_wellFormed_iff
  | buttonNone => exact (and_iff_left rfl).trans fBtnNone_wellFormed_iff
  | unknown => exact (and_iff_left rfl).trans fUnknown_wellFormed_iff

end

/-! ## Codes -/

/-- Every operation has a selector: the lemmas of Laws/PerInstr.lean as one. -/
theorem selector : (i : Instr) → Laws.Selector.Statement i
  | .sShift bit => Laws.Selector.sShift bit
  | .sComplete => Laws.Selector.sComplete
  | .sDrop => Laws.Selector.sDrop
  | .sIdle => Laws.Selector.sIdle
  | .fCue => Laws.Selector.fCue
  | .fDigitP1 f => Laws.Selector.fDigitP1 f
  | .fDigitP2 f => Laws.Selector.fDigitP2 f
  | .fDigitP3 f => Laws.Selector.fDigitP3 f
  | .fDigitP4 f => Laws.Selector.fDigitP4 f
  | .fLed f => Laws.Selector.fLed f
  | .fBtnPower f => Laws.Selector.fBtnPower f
  | .fBtnFilter f => Laws.Selector.fBtnFilter f
  | .fBtnHeater f => Laws.Selector.fBtnHeater f
  | .fBtnBubble f => Laws.Selector.fBtnBubble f
  | .fBtnTempUp f => Laws.Selector.fBtnTempUp f
  | .fBtnTempDown f => Laws.Selector.fBtnTempDown f
  | .fBtnTempUnit f => Laws.Selector.fBtnTempUnit f
  | .fBtnJet f => Laws.Selector.fBtnJet f
  | .fBtnDisinf f => Laws.Selector.fBtnDisinf f
  | .fBtnNone f => Laws.Selector.fBtnNone f
  | .fZero => Laws.Selector.fZero
  | .fUnknown f => Laws.Selector.fUnknown f
  | .hPress b n => Laws.Selector.hPress b n
  | .hSetPower req => Laws.Selector.hSetPower req
  | .hSetFilter req => Laws.Selector.hSetFilter req
  | .hSetBubble req => Laws.Selector.hSetBubble req
  | .hSetHeater req => Laws.Selector.hSetHeater req
  | .hSetJet req => Laws.Selector.hSetJet req
  | .hSetTemp t => Laws.Selector.hSetTemp t
  | .hSetDisinf h => Laws.Selector.hSetDisinf h
  | .hLiveness => Laws.Selector.hLiveness
  | .hGetOnline => Laws.Selector.hGetOnline
  | .hGetFramesTotal => Laws.Selector.hGetFramesTotal
  | .hGetFramesDropped => Laws.Selector.hGetFramesDropped
  | .hGetPower => Laws.Selector.hGetPower
  | .hGetFilter => Laws.Selector.hGetFilter
  | .hGetBubble => Laws.Selector.hGetBubble
  | .hGetHeaterOn => Laws.Selector.hGetHeaterOn
  | .hGetHeaterStandby => Laws.Selector.hGetHeaterStandby
  | .hGetBuzzer => Laws.Selector.hGetBuzzer
  | .hGetJet => Laws.Selector.hGetJet
  | .hGetDisinf => Laws.Selector.hGetDisinf
  | .hGetLedRaw => Laws.Selector.hGetLedRaw
  | .hGetActualC => Laws.Selector.hGetActualC
  | .hGetDesiredC => Laws.Selector.hGetDesiredC
  | .hGetDurationH => Laws.Selector.hGetDurationH
  | .hGetError => Laws.Selector.hGetError

/-- A well-formed operation of a frame is the one that the frame selects (R82). -/
theorem eq_decodeFrame_of_encode {c : Cfg} {i : Instr} {f : Frame} (hc : c.wellFormed = true)
    (hi : i.wellFormed c = true) (h : encode c i = .frame f) : i = decodeFrame c f := by
  rcases selector i c with ⟨_, _, _, he, _⟩ | ⟨f', op, he, rfl⟩ | ⟨_, he, _⟩
  · cases he.symm.trans h
  · cases he.symm.trans h
    rw [decodeFrame, (frameOp_wellFormed_encode_iff hc op).mp ⟨hi, h⟩]
  · cases he.symm.trans h

theorem decode_encode {c : Cfg} {i : Instr} (hc : c.wellFormed = true) (hi : i.wellFormed c = true) :
    decode c (encode c i) = .ok i := by
  rcases selector i c with ⟨_, _, _, he, hd⟩ | ⟨f, _, he, _⟩ | ⟨_, he, hd⟩ <;> rw [he]
  · exact congrArg _ hd
  · exact congrArg _ (eq_decodeFrame_of_encode hc hi he).symm
  · exact hd

section
variable {c : Cfg} {call : HostCall} {i : Instr}

/-! A call read with one kind of argument, whose name is that of the operation's code, is the operation's code. -/

theorem encode_of_nullary {j : Instr} (hname : encode c j = .call ⟨call.name, .noArg⟩) (h : nullary call j = .ok i) :
    encode c i = .call call := by
  obtain ⟨name, arg⟩ := call
  cases arg <;> cases h
  exact hname

theorem encode_of_unaryBool {j : Bool → Instr} (hname : ∀ on, encode c (j on) = .call ⟨call.name, .req on⟩)
    (h : unaryBool call j = .ok i) : encode c i = .call call := by
  obtain ⟨name, arg⟩ := call
  cases arg <;> cases h
  exact hname _

theorem encode_of_unaryInt {j : Int → Instr} (hname : ∀ t, encode c (j t) = .call ⟨call.name, .int t⟩)
    (h : unaryInt call j = .ok i) : encode c i = .call call := by
  obtain ⟨name, arg⟩ := call
  cases arg <;> cases h
  exact hname _

theorem encode_of_pressCall (hname : call.name = "H.PRESS") (h : pressCall call = .ok i) :
    encode c i = .call call := by
  obtain ⟨name, arg⟩ := call
  cases arg <;> cases h
  cases hname
  rfl

/-- A call that selects an operation is its code: no other name and no other kind of argument selects one (R62, R73). -/
theorem encode_of_decodeCall (h : decodeCall call = .ok i) : encode c i = .call call := by
  unfold decodeCall at h
  split at h
  case h_1 hname => exact encode_of_pressCall hname h
  case h_2 hname | h_3 hname | h_4 hname | h_5 hname | h_6 hname =>
    exact encode_of_unaryBool (fun _ => by rw [hname]; rfl) h
  case h_7 hname | h_8 hname => exact encode_of_unaryInt (fun _ => by rw [hname]; rfl) h
  case h_26 => cases h
  all_goals
    next hname => exact encode_of_nullary (by rw [hname]; rfl) h

end

/-! ## The glyph table (R88, R89) -/

/-- A list of pairs without a repeated second component pairs each one with a single first component. -/
theorem fst_eq_of_nodup_snd {α β : Type} {l : List (α × β)} (hl : (l.map Prod.snd).Nodup) {a a' : α} {b : β}
    (h : (a, b) ∈ l) (h' : (a', b) ∈ l) : a = a' := by
  induction l with
  | nil => cases h
  | cons r l ih =>
    rw [List.map_cons, List.nodup_cons] at hl
    obtain ⟨hnew, hl⟩ := hl
    have hsnd : ∀ x, (x, b) ∈ l → b ∈ l.map Prod.snd := fun x hx => List.mem_map.mpr ⟨_, hx, rfl⟩
    rcases List.mem_cons.mp h with rfl | hm <;> rcases List.mem_cons.mp h' with e | hm'
    · cases e; rfl
    · exact absurd (hsnd _ hm') hnew
    · subst e; exact absurd (hsnd _ hm) hnew
    · exact ih hl hm hm'

section
variable {c : Cfg}

/-- The segment set that a pattern lights: each segment whose bit the pattern has. -/
def litSegs (c : Cfg) (pat : Mask) : SegSet :=
  ⟨hits pat c.segA, hits pat c.segB, hits pat c.segC, hits pat c.segD, hits pat c.segE, hits pat c.segF,
    hits pat c.segG⟩

theorem litSegs_segmask (hc : c.wellFormed = true) (g : SegSet) : litSegs c (segmask c g) = g := by
  obtain ⟨hself, hother⟩ := segBits_hits hc
  simp only [Cfg.segBits, List.mem_cons, forall_eq_or_imp, List.pairwise_cons] at hself hother
  simp [litSegs, segmask, or_hits, ite_hits, hself, hother]

theorem segmask_injective (hc : c.wellFormed = true) : Function.Injective (segmask c) :=
  Function.LeftInverse.injective (litSegs_segmask hc)

/-- A row's pattern finds the row, the only one with its segments (R11 w7). -/
theorem decodeGlyph_segmask (hc : c.wellFormed = true) {ch : Glyph} {g : SegSet} (h : (ch, g) ∈ c.glyphs) :
    decodeGlyph c (segmask c g) = some ch := by
  obtain ⟨hnodup, _⟩ := glyphs_of_wellFormed hc
  unfold decodeGlyph
  cases hfind : c.glyphs.find? fun r => segmask c r.2 == segmask c g with
  | none => simpa using List.find?_eq_none.mp hfind _ h
  | some r =>
    have hsegs : r.2 = g := segmask_injective hc (by simpa using List.find?_some hfind)
    have hrow : (r.1, g) ∈ c.glyphs := hsegs ▸ List.mem_of_find?_eq_some hfind
    exact congrArg some (fst_eq_of_nodup_snd hnodup hrow h)

theorem decodeGlyph_eq_none {pat : Mask} (h : ∀ r ∈ c.glyphs, segmask c r.2 ≠ pat) : decodeGlyph c pat = none := by
  simpa [decodeGlyph] using h

theorem decodeGlyph_zero (hc : c.wellFormed = true) : decodeGlyph c 0#16 = some .blank := by
  obtain ⟨_, hblank⟩ := glyphs_of_wellFormed hc
  simpa [segmask] using decodeGlyph_segmask hc hblank

end

end Sys2Proof

namespace Sys2Proof.Claims

open Sys2Proof Sys2Proof.Machine

/-- Settles O1: the round trip goes through the selector of each operation, the converse through each name. -/
theorem decodeEncodeAgree : Obligations.DecodeEncodeAgree :=
  ⟨fun _ _ => decode_encode, fun _ _ _ => encode_of_decodeCall⟩

/-- Settles O2: the operation of the selected class is well-formed, and no other one encodes the frame. -/
theorem everyFrameSelectsOneOperation : Obligations.EveryFrameSelectsOneOperation := fun c f hc => by
  obtain ⟨hwf, hcode⟩ := (frameOp_wellFormed_encode_iff hc (selectFrame c f)).mpr rfl
  exact ⟨hwf, hcode, fun _ hi he => eq_decodeFrame_of_encode hc hi he⟩

/-- Settles O4: on a well-formed configuration `segmask` is injective, so a pattern has at most one row. -/
theorem glyphTableDecodes : Obligations.GlyphTableDecodes := fun _ hc =>
  ⟨fun _ _ => decodeGlyph_segmask hc, fun _ => decodeGlyph_eq_none, decodeGlyph_zero hc⟩

/-- Settles O3, by evaluation. -/
theorem tableWordsDecode : Obligations.TableWordsDecode := by
  unfold Obligations.TableWordsDecode
  decide

end Sys2Proof.Claims

/-! SUPPORT. Sixteen enabled edges: what they leave in the frame register, what each of them does, and the statement about
them settled. -/

namespace Sys2Proof.Machine

/-! ## The frame register (R111) -/

/-- The frame register after one bit has entered at bit 0. -/
def pushBit (sr : Frame) (b : Bool) : Frame := (sr <<< 1) ||| (BitVec.ofBool b).setWidth 16

theorem pushBit_getLsbD_zero (sr : Frame) (b : Bool) : (pushBit sr b).getLsbD 0 = b := by
  simp [pushBit]

theorem pushBit_getLsbD_succ (sr : Frame) (b : Bool) {i : Nat} (hi : i < 15) :
    (pushBit sr b).getLsbD (i + 1) = sr.getLsbD i := by
  simp [pushBit]; omega

/-- The first `n` bits of a frame on the wire, bit 15 first (R63). -/
def firstBits (v : Frame) (n : Nat) : List Bool := (List.range n).map fun k => v.getLsbD (15 - k)

theorem firstBits_succ (v : Frame) (n : Nat) : firstBits v (n + 1) = firstBits v n ++ [v.getLsbD (15 - n)] := by
  simp [firstBits, List.range_succ]

theorem length_firstBits (v : Frame) (n : Nat) : (firstBits v n).length = n := by simp [firstBits]

/-- Once `n` bits of `v` are in, the low `n` bits of the register are those of `v` from bit `16 - n` up. -/
theorem foldl_pushBit_getLsbD (sr v : Frame) {n : Nat} (hn : n ≤ 16) {i : Nat} (hi : i < n) :
    ((firstBits v n).foldl pushBit sr).getLsbD i = v.getLsbD (16 - n + i) := by
  induction n generalizing i with
  | zero => omega
  | succ n ih =>
    rw [firstBits_succ, List.foldl_append, List.foldl_cons, List.foldl_nil]
    cases i with
    | zero => rw [pushBit_getLsbD_zero]; congr 1; omega
    | succ i =>
      rw [pushBit_getLsbD_succ _ _ (by omega), ih (by omega) (by omega)]
      congr 1; omega

/-- All sixteen bits leave the frame, whatever the register held. -/
theorem foldl_pushBit_frame (sr v : Frame) : (firstBits v 16).foldl pushBit sr = v :=
  BitVec.eq_of_getLsbD_eq fun i hi => by rw [foldl_pushBit_getLsbD sr v (Nat.le_refl 16) hi]; congr 1; omega

/-! ## Enabled edges (R110, R175) -/

/-- The state after an enabled edge, with `sr` in the frame register, `n` bits counted and the inputs `es` still to come:
RPG is idle and the latch line low. -/
def enabledAt (sr : Frame) (n : BitVec 5) (es : List Event) (s : State) : State :=
  { s with
    sampler.sr := sr, sampler.nbits := n, reply.rpg := .idle, reply.latchLevel := .low, world.inputs := es }

/-- The enabled edges that carry the bits. -/
def bitEdges (bits : List Bool) : List Event := bits.map fun b => .clk (levelOf b) .low

theorem wire_eq_bitEdges (v : Frame) : Claims.wire v = bitEdges (firstBits v 16) := by
  simp [Claims.wire, bitEdges, firstBits, levelOf]

theorem runSteps_add (m n : Nat) (s : State) : runSteps (m + n) s = andThen (runSteps m s) (runSteps n) := by
  induction m generalizing s with
  | zero => rw [Nat.zero_add]; rfl
  | succ m ih =>
    rw [Nat.succ_add, runSteps, runSteps]
    cases step s with
    | next t => exact ih t
    | fault r => rfl
    | refused r => rfl

theorem runSteps_one (s : State) : runSteps 1 s = step s := by
  show andThen (step s) .next = step s
  cases step s <;> rfl

/-- S.COMPLETE (R112; D31): count, the operation that the frame register selects, the frame boundary. -/
theorem exec_sComplete (s : State) :
    exec .sComplete s = andThen (exec (decodeFrame s.cfg s.sampler.sr) (countTotal s)) fun t => .next (frameBoundary t) := by
  show execSComplete s = _
  rw [execSComplete, dispatch_eq, countTotal_cfg]

section
variable {s : State} {sr : Frame} {n : BitVec 5} {es : List Event}

/-- An enabled edge with the data pin an input shifts the bit on the line (R16, R111), and the sixteenth bit completes the
frame in the same step. -/
theorem step_enabled (hpin : s.reply.dataPin = .input) {b : Bool} (hes : s.world.inputs = .clk (levelOf b) .low :: es)
    (hn : s.sampler.nbits ≠ 16#5) :
    step s = if s.sampler.nbits + 1#5 == 16#5
      then exec .sComplete (enabledAt (pushBit s.sampler.sr b) (s.sampler.nbits + 1#5) es s)
      else .next (enabledAt (pushBit s.sampler.sr b) (s.sampler.nbits + 1#5) es s) := by
  have hclock : step s = clockEdge (levelOf b) .low { s with world.inputs := es } := by
    unfold step takeInput; rw [hes]; rfl
  have hstart : edgeStart .low { s with world.inputs := es } = enabledAt s.sampler.sr s.sampler.nbits es s := by
    rw [edgeStart_eq]; simp [enabledAt, hpin]
  have hbit : sampleBit (levelOf b) { s with world.inputs := es } = b := by
    simp only [sampleBit, hpin]; cases b <;> rfl
  have hedge : decodeEdge (sampleEnable .low) b s.sampler.nbits = .sShift b := by
    simp [decodeEdge, sampleEnable, hn]
  rw [hclock, clockEdge, hstart, hbit]
  simp only [enabledAt, hedge]
  rfl

/-- What RPG and the latch line were before an enabled edge has no part in it (R175; D20). -/
theorem step_eq_step_enabledAt (hpin : s.reply.dataPin = .input) {b : Bool}
    (hes : s.world.inputs = .clk (levelOf b) .low :: es) (hn : s.sampler.nbits ≠ 16#5) :
    step s = step (enabledAt s.sampler.sr s.sampler.nbits s.world.inputs s) := by
  have hat := step_enabled (s := enabledAt s.sampler.sr s.sampler.nbits s.world.inputs s) hpin hes hn
  exact (step_enabled hpin hes hn).trans hat.symm

theorem step_enabledAt_shifts (hpin : s.reply.dataPin = .input) (b : Bool) (hn : n.toNat < 15) :
    step (enabledAt sr n (bitEdges [b] ++ es) s) = .next (enabledAt (pushBit sr b) (n + 1#5) es s) := by
  refine (step_enabled (s := enabledAt sr n (bitEdges [b] ++ es) s) hpin rfl ?_).trans (if_neg ?_)
  · show n ≠ 16#5
    bv_omega
  · show ¬(n + 1#5 == 16#5) = true
    rw [beq_iff_eq]
    bv_omega

theorem step_enabledAt_completes (hpin : s.reply.dataPin = .input) (b : Bool) :
    step (enabledAt sr 15#5 (bitEdges [b] ++ es) s) = exec .sComplete (enabledAt (pushBit sr b) 16#5 es s) :=
  step_enabled (s := enabledAt sr 15#5 (bitEdges [b] ++ es) s) hpin rfl (by show 15#5 ≠ 16#5; decide)

/-- Before the sixteenth bit, the enabled edges only fill the frame register. -/
theorem runSteps_bitEdges (hpin : s.reply.dataPin = .input) (bits : List Bool) (hn : n.toNat + bits.length < 16) :
    runSteps bits.length (enabledAt sr n (bitEdges bits ++ es) s) =
      .next (enabledAt (bits.foldl pushBit sr) (n + BitVec.ofNat 5 bits.length) es s) := by
  induction bits generalizing sr n with
  | nil => simp [runSteps, bitEdges]
  | cons b bits ih =>
    rw [List.length_cons] at hn
    have hstep : step (enabledAt sr n (bitEdges (b :: bits) ++ es) s) =
        .next (enabledAt (pushBit sr b) (n + 1#5) (bitEdges bits ++ es) s) :=
      step_enabledAt_shifts hpin b (by omega)
    have hcount : n + 1#5 + BitVec.ofNat 5 bits.length = n + BitVec.ofNat 5 (bits.length + 1) := by
      rw [BitVec.ofNat_add]; ac_rfl
    rw [List.length_cons, runSteps, hstep, andThen_next, ih (by bv_omega), hcount]
    rfl

/-- Sixteen enabled edges from a frame boundary complete the frame they carry (R81). -/
theorem runSteps_frame (hpin : s.reply.dataPin = .input) (v : Frame) :
    runSteps 16 (enabledAt sr 0#5 (bitEdges (firstBits v 16) ++ es) s) = exec .sComplete (enabledAt v 16#5 es s) := by
  have hsplit : bitEdges (firstBits v 16) ++ es = bitEdges (firstBits v 15) ++ (bitEdges [v.getLsbD 0] ++ es) := by
    rw [firstBits_succ]; simp [bitEdges]
  have hfill := runSteps_bitEdges (sr := sr) (n := 0#5) (es := bitEdges [v.getLsbD 0] ++ es) hpin (firstBits v 15)
    (by rw [length_firstBits]; decide)
  rw [length_firstBits] at hfill
  have hframe : pushBit ((firstBits v 15).foldl pushBit sr) (v.getLsbD 0) = v := by
    have hall := foldl_pushBit_frame sr v
    rwa [firstBits_succ, List.foldl_append, List.foldl_cons, List.foldl_nil] at hall
  rw [hsplit, runSteps_add 15 1, hfill, andThen_next, runSteps_one]
  exact (step_enabledAt_completes hpin _).trans (by rw [hframe])

end

end Sys2Proof.Machine

namespace Sys2Proof.Claims

open Sys2Proof Sys2Proof.Machine

/-- Settles O5: fifteen edges fill the frame register, the sixteenth completes the frame. -/
theorem sixteenEdgesAssembleTheFrame : Obligations.SixteenEdgesAssembleTheFrame := by
  intro s v hbits hpin _
  have hstart : step (feed (wire v) s) = step (enabledAt s.sampler.sr 0#5 (wire v ++ s.world.inputs) s) := by
    rw [← hbits]
    exact step_eq_step_enabledAt (s := feed (wire v) s) (b := v.getLsbD 15) hpin rfl
      (by show s.sampler.nbits ≠ 16#5; rw [hbits]; decide)
  calc runSteps 16 (feed (wire v) s)
      = runSteps 16 (enabledAt s.sampler.sr 0#5 (wire v ++ s.world.inputs) s) := congrArg (andThen · _) hstart
    _ = exec .sComplete (enabledAt v 16#5 s.world.inputs s) := by rw [wire_eq_bitEdges]; exact runSteps_frame hpin v
    _ = _ := exec_sComplete _

end Sys2Proof.Claims

/-! SUPPORT. One clock edge: the operation it selects, what it is before and at the sixteenth bit, what a completed
frame leaves of the sampler, and the statements about the sampler and about a step settled from them. -/

namespace Sys2Proof.Machine

/-! ## Selection by an edge (R110) -/

/-- With at most fifteen bits counted an edge shifts, drops or is idle (R111, R113, R114; D3 for the sixteenth bit). -/
theorem decodeEdge_inFrame (en bit : Bool) {n : BitVec 5} (hn : n.toNat ≤ 15) :
    ((en = true ∨ n = 15#5) ∧ decodeEdge en bit n = .sShift bit) ∨
    ((en = false ∧ n ≠ 15#5 ∧ n ≠ 0#5) ∧ decodeEdge en bit n = .sDrop) ∨
    ((en = false ∧ n = 0#5) ∧ decodeEdge en bit n = .sIdle) := by
  have h16 : n ≠ 16#5 := by bv_omega
  by_cases hshift : en = true ∨ n = 15#5
  · exact .inl ⟨hshift, by simp [decodeEdge, h16, hshift]⟩
  · rw [not_or, Bool.not_eq_true] at hshift
    obtain ⟨rfl, h15⟩ := hshift
    by_cases h0 : n = 0#5
    · subst h0; exact .inr (.inr ⟨⟨rfl, rfl⟩, rfl⟩)
    · exact .inr (.inl ⟨⟨rfl, h15, h0⟩, by simp [decodeEdge, h16, h15, h0]⟩)

theorem decodeEdge_eq_sDrop_iff (en bit : Bool) {n : BitVec 5} (hn : n.toNat ≤ 15) :
    decodeEdge en bit n = .sDrop ↔ en = false ∧ 0 < n.toNat ∧ n.toNat < 15 := by
  rcases decodeEdge_inFrame en bit hn with ⟨hshift, e⟩ | ⟨⟨hen, h15, h0⟩, e⟩ | ⟨⟨_, rfl⟩, e⟩ <;> rw [e]
  · refine iff_of_false nofun fun ⟨hen, _, hlt⟩ => ?_
    rcases hshift with hen' | rfl
    · rw [hen] at hen'; cases hen'
    · exact absurd hlt (by decide)
  · exact iff_of_true rfl ⟨hen, by bv_omega, by bv_omega⟩
  · exact iff_of_false nofun fun ⟨_, hpos, _⟩ => absurd hpos (by decide)

theorem decodeEdge_eq_sIdle_iff (en bit : Bool) {n : BitVec 5} (hn : n.toNat ≤ 15) :
    decodeEdge en bit n = .sIdle ↔ en = false ∧ n = 0#5 := by
  rcases decodeEdge_inFrame en bit hn with ⟨hshift, e⟩ | ⟨⟨_, _, h0⟩, e⟩ | ⟨hidle, e⟩ <;> rw [e]
  · refine iff_of_false nofun ?_
    rintro ⟨rfl, rfl⟩
    exact absurd hshift (by decide)
  · exact iff_of_false nofun fun ⟨_, hzero⟩ => h0 hzero
  · exact iff_of_true rfl hidle

/-- R122, as `decodeFrame` selects it. -/
theorem decodeFrame_eq_fZero_iff {c : Cfg} (hc : c.wellFormed = true) (f : Frame) :
    decodeFrame c f = .fZero ↔ f = 0#16 := by
  rw [← zero_test_iff hc, ← selectFrame_eq_iff, decodeFrame]
  refine ⟨fun h => ?_, fun h => by rw [h]; rfl⟩
  revert h
  cases selectFrame c f with
  | digit k => cases k <;> nofun
  | button b => cases b <;> nofun
  | zero => exact fun _ => rfl
  | _ => nofun

/-! ## A completed frame (R112) -/

/-- S.COMPLETE answers: the counted frame's operation has a next state, which keeps the sampler, the foreground and the
configuration, and then comes the frame boundary. -/
theorem exec_sComplete_next (s : State) :
    ∃ t, exec (decodeFrame s.cfg s.sampler.sr) (countTotal s) = .next t ∧
      exec .sComplete s = .next (frameBoundary t) ∧
      t.sampler = (countTotal s).sampler ∧ t.fg = s.fg ∧ t.cfg = s.cfg := by
  obtain ⟨d, l, u, p, r, rs, hrun⟩ := dispatch_frame s.sampler.sr (countTotal s)
  rw [dispatch_eq, countTotal_cfg] at hrun
  exact ⟨_, hrun, by rw [exec_sComplete, hrun, andThen_next], rfl, rfl, rfl⟩

/-! ## One clock edge -/

/-- The state in which an edge that brings the sixteenth bit completes the frame (R111, R112). -/
def sixteenBitsIn (d l : Level) (s : State) : State :=
  { edgeStart l s with
    sampler := { s.sampler with sr := pushBit s.sampler.sr (sampleBit d s), nbits := 16#5 } }

section
variable {s : State} (d l : Level)

/-- Before the sixteenth bit, an edge is the one operation it selects. -/
theorem clockEdge_before_sixteenth (hn : s.sampler.nbits.toNat < 15) :
    clockEdge d l s = exec (decodeEdge (sampleEnable l) (sampleBit d s) s.sampler.nbits) (edgeStart l s) := by
  have hdone : ∀ t : State, t.sampler.nbits.toNat < 16 →
      (if t.sampler.nbits == 16#5 then exec .sComplete t else .next t) = .next t := fun t ht => by
    have h16 : t.sampler.nbits ≠ 16#5 := by bv_omega
    simp [h16]
  have hshift : (s.sampler.nbits + 1#5).toNat < 16 := by bv_omega
  unfold clockEdge
  simp only [edgeStart_sampler]
  rcases decodeEdge_inFrame (sampleEnable l) (sampleBit d s) (Nat.le_of_lt hn) with ⟨_, e⟩ | ⟨_, e⟩ | ⟨_, e⟩ <;> rw [e]
  · exact hdone _ (by rw [edgeStart_sampler]; exact hshift)
  · exact hdone (raise .framingAnomaly (frameBoundary (edgeStart l s))) (by show (0#5).toNat < 16; decide)
  · exact hdone _ (by rw [edgeStart_sampler]; omega)

/-- The sixteenth bit is shifted in whatever the enable says (D3), and the frame completes at the same edge. -/
theorem clockEdge_at_sixteenth (hn : s.sampler.nbits = 15#5) :
    clockEdge d l s = exec .sComplete (sixteenBitsIn d l s) := by
  have hedge : decodeEdge (sampleEnable l) (sampleBit d s) 15#5 = .sShift (sampleBit d s) := by simp [decodeEdge]
  have hshift : exec (.sShift (sampleBit d s)) (edgeStart l s) = .next (sixteenBitsIn d l s) := by
    show execSShift _ _ = _
    simp only [execSShift, edgeStart_sampler, hn]
    rfl
  unfold clockEdge
  simp only [edgeStart_sampler, hn, hedge, hshift]
  rfl

end

/-- The sampler after an edge before the sixteenth bit: the counters move exactly at a drop (R111, R113, R114). -/
theorem clockEdge_counters_before_sixteenth {d l : Level} {s t : State} (hn : s.sampler.nbits.toNat < 15)
    (h : clockEdge d l s = .next t) :
    (t.sampler.frameTotal =
      if l = .high ∧ s.sampler.nbits ≠ 0#5 then wrapFc s.cfg (s.sampler.frameTotal + 1) else s.sampler.frameTotal) ∧
    t.sampler.frameDropped =
      if l = .high ∧ s.sampler.nbits ≠ 0#5 then wrapFc s.cfg (s.sampler.frameDropped + 1)
      else s.sampler.frameDropped := by
  have henable : sampleEnable l = false ↔ l = .high := by cases l <;> decide
  rw [clockEdge_before_sixteenth d l hn] at h
  rcases decodeEdge_inFrame (sampleEnable l) (sampleBit d s) (Nat.le_of_lt hn) with
    ⟨hen, e⟩ | ⟨⟨hen, _, h0⟩, e⟩ | ⟨⟨_, h0⟩, e⟩ <;> rw [e] at h <;> obtain rfl := next_inj h
  · have hlow : l ≠ .high := fun hl => by
      rcases hen with hen | h15
      · rw [henable.mpr hl] at hen; cases hen
      · rw [h15] at hn; exact absurd hn (by decide)
    simp [hlow]
  · simp [henable.mp hen, h0, raise]
  · simp [h0]

/-- The counters after the edge of the sixteenth bit: one frame more in the total (R112). -/
theorem clockEdge_counters_at_sixteenth {d l : Level} {s t : State} (hn : s.sampler.nbits = 15#5)
    (h : clockEdge d l s = .next t) :
    t.sampler.frameTotal = wrapFc s.cfg (s.sampler.frameTotal + 1) ∧
      t.sampler.frameDropped = s.sampler.frameDropped := by
  obtain ⟨u, _, hrun, hu, _⟩ := exec_sComplete_next (sixteenBitsIn d l s)
  rw [clockEdge_at_sixteenth d l hn, hrun] at h
  obtain rfl := next_inj h
  rw [frameBoundary_sampler, hu]
  exact ⟨by simp [sixteenBitsIn], rfl⟩

/-! ## One step -/

/-- A step takes the next input and runs it. -/
theorem step_of_input {s : State} {e : Event} {rest : List Event} (h : s.world.inputs = e :: rest) :
    step s = runEvent e { s with world.inputs := rest } := by
  unfold step takeInput; rw [h]

theorem step_of_noInput {s : State} (h : s.world.inputs = []) : step s = .next s := by
  unfold step takeInput; rw [h]

theorem hostCall_of_ok {c : HostCall} {i : Instr} (h : decodeCall c = .ok i) (s : State) : hostCall c s = exec i s := by
  unfold hostCall; rw [h]

theorem hostCall_of_error {c : HostCall} {e : DecodeError} (h : decodeCall c = .error e) (s : State) :
    hostCall c s = .refused (.badCall e) := by
  unfold hostCall; rw [h]

end Sys2Proof.Machine

namespace Sys2Proof.Claims

open Sys2Proof Sys2Proof.Machine

/-- Settles O8. -/
theorem completeCountsAndDispatches : Obligations.CompleteCountsAndDispatches := exec_sComplete_next

/-- Settles O11: fifteen bits make a completion, fewer a drop or nothing that is counted. -/
theorem edgeCounting : Obligations.EdgeCounting := by
  intro s t d l hn h
  by_cases h15 : s.sampler.nbits = 15#5
  · obtain ⟨htotal, hdropped⟩ := clockEdge_counters_at_sixteenth h15 h
    exact ⟨by rw [if_pos (.inl h15), htotal]; rfl, by rw [if_neg fun ⟨_, _, hne⟩ => hne h15, hdropped]⟩
  · obtain ⟨htotal, hdropped⟩ := clockEdge_counters_before_sixteenth (by bv_omega) h
    simp only [wrapFc] at htotal hdropped
    exact ⟨by simpa only [h15, false_or] using htotal,
      by simpa only [ne_eq, h15, not_false_eq_true, and_true] using hdropped⟩

/-- Settles O6: an edge before and at the sixteenth bit, then a host call by its name, then any input and none. -/
theorem stepRunsTheDecodedOperation : Obligations.StepRunsTheDecodedOperation := by
  refine ⟨fun s d l rest hin hn => ?_, fun s d l rest f hin hn hf => ?_, fun s call rest i hin hcall => ?_,
    fun s call rest err hin hcall => ?_, fun _ _ _ => step_of_input, fun _ => step_of_noInput⟩
  · exact (step_of_input hin).trans (clockEdge_before_sixteenth (s := { s with world.inputs := rest }) d l hn)
  · subst hf
    calc step s = clockEdge d l { s with world.inputs := rest } := step_of_input hin
      _ = exec .sComplete (sixteenBitsIn d l { s with world.inputs := rest }) := clockEdge_at_sixteenth d l hn
      _ = _ := exec_sComplete _
      _ = _ := by simp only [sixteenBitsIn, edgeStart_cfg]; rfl
  · exact (step_of_input hin).trans (hostCall_of_ok hcall _)
  · exact (step_of_input hin).trans (hostCall_of_error hcall _)

/-- Settles O7. -/
theorem shiftMovesBitsUp : Obligations.ShiftMovesBitsUp := fun bit s =>
  ⟨pushBit s.sampler.sr bit, rfl, pushBit_getLsbD_zero _ _, fun _ => pushBit_getLsbD_succ _ _⟩

/-- Settles O9. -/
theorem dropCountsBothAndKeepsDecoders : Obligations.DropCountsBothAndKeepsDecoders :=
  ⟨fun _ => rfl, fun en bit _ => decodeEdge_eq_sDrop_iff en bit⟩

/-- Settles O10. -/
theorem idleEdgeAndZeroFrameChangeNothing : Obligations.IdleEdgeAndZeroFrameChangeNothing :=
  ⟨fun _ => ⟨rfl, rfl⟩, fun en bit _ => decodeEdge_eq_sIdle_iff en bit, fun _ f hc => decodeFrame_eq_fZero_iff hc f⟩

end Sys2Proof.Claims

/-! SUPPORT. The classifier: a frame decodes to the operation of a class exactly when it passes the tests of that class, and
the statements about discarded frames settled from it. -/

namespace Sys2Proof

/-! ## The class of an operation -/

/-- The class that a frame operation stands for; an operation of another group has none (R8). -/
def Instr.frameOp : Instr → Option FrameOp
  | .fCue => some .cue
  | .fDigitP1 _ => some (.digit .p1)
  | .fDigitP2 _ => some (.digit .p2)
  | .fDigitP3 _ => some (.digit .p3)
  | .fDigitP4 _ => some (.digit .p4)
  | .fLed _ => some .led
  | .fBtnPower _ => some (.button .power)
  | .fBtnFilter _ => some (.button .filter)
  | .fBtnHeater _ => some (.button .heater)
  | .fBtnBubble _ => some (.button .bubble)
  | .fBtnTempUp _ => some (.button .tempUp)
  | .fBtnTempDown _ => some (.button .tempDown)
  | .fBtnTempUnit _ => some (.button .tempUnit)
  | .fBtnJet _ => some (.button .jet)
  | .fBtnDisinf _ => some (.button .disinf)
  | .fBtnNone _ => some .buttonNone
  | .fZero => some .zero
  | .fUnknown _ => some .unknown
  | _ => none

@[simp] theorem FrameOp.frameOp_instr (op : FrameOp) (f : Frame) : (op.instr f).frameOp = some op := by
  cases op with
  | digit k => cases k <;> rfl
  | button b => cases b <;> rfl
  | _ => rfl

/-- Different classes have different operations (R82). -/
theorem FrameOp.instr_inj {op op' : FrameOp} {f : Frame} : op.instr f = op'.instr f ↔ op = op' := by
  refine ⟨fun h => ?_, fun h => h ▸ rfl⟩
  have hclass := congrArg Instr.frameOp h
  rw [frameOp_instr, frameOp_instr] at hclass
  exact Option.some.inj hclass

/-! ## Selection in terms of the masks (R120) -/

theorem hits_eq_false_iff {f m : Mask} : hits f m = false ↔ (f &&& m) = 0#16 := by
  simp [hits]

section
variable {c : Cfg} {f : Frame}

/-- A frame decodes to the operation of a class exactly when it passes the tests of the class. -/
theorem decodeFrame_eq_instr_iff (op : FrameOp) : decodeFrame c f = op.instr f ↔ op.Test c f :=
  FrameOp.instr_inj.trans selectFrame_eq_iff

/-- R123: the frame is not the cue, has no bit of the three class masks, and is not 0. -/
theorem unknown_test_iff : FrameOp.unknown.Test c f ↔
    f ≠ c.cue ∧ (f &&& c.digitAny) = 0#16 ∧ (f &&& c.ledMark) = 0#16 ∧ (f &&& c.buttonAny) = 0#16 ∧ f ≠ 0#16 := by
  simp only [FrameOp.Test, position_eq_none_iff, hits_eq_false_iff]

end

end Sys2Proof

namespace Sys2Proof.Machine

/-! ## Discarded frames -/

@[simp] theorem exec_fCue (s : State) : exec .fCue s = .next s := rfl

@[simp] theorem exec_fUnknown (f : Frame) (s : State) : exec (.fUnknown f) s = .next s := rfl

end Sys2Proof.Machine

namespace Sys2Proof.Claims

open Sys2Proof Sys2Proof.Machine

/-- Settles O12: the only test of F.CUE is equality with the cue. -/
theorem cueFramesAreDiscarded : Obligations.CueFramesAreDiscarded :=
  ⟨fun _ _ => decodeFrame_eq_instr_iff .cue, exec_fCue⟩

/-- Settles O13: the tests of F.UNKNOWN are that the five before it fail. -/
theorem unknownFramesAreDiscarded : Obligations.UnknownFramesAreDiscarded :=
  ⟨fun _ _ => (decodeFrame_eq_instr_iff .unknown).trans unknown_test_iff, exec_fUnknown⟩

end Sys2Proof.Claims

/-! SUPPORT. The Display Decoder: what a DIGIT frame does at each position, what a confirmed composite of each kind
does, what a whole step may do to a blink episode and to the desired reading, the latency of a steady temperature, and
the number that a composite shows; the statements about the display settled from them. -/

namespace Sys2Proof.Machine

/-! ## A DIGIT frame (R130) -/

section
variable {c : Cfg} {fc : Nat} {k : Pos} {f : Frame} {d : Display}

/-- R131. -/
theorem digitFrame_of_unknown (h : frameGlyph c f = none) : digitFrame c fc k f d = d := by
  unfold digitFrame; rw [h]

/-- R132. -/
theorem digitFrame_of_not_awaited (h : d.dpos ≠ awaits k) : digitFrame c fc k f d = d := by
  unfold digitFrame
  cases frameGlyph c f with
  | none => rfl
  | some ch => simp [h]

/-- R133. -/
theorem digitFrame_of_awaited {ch : Glyph} (hg : frameGlyph c f = some ch) (h : d.dpos = awaits k) :
    digitFrame c fc k f d = acceptChar c fc k ch d := by
  unfold digitFrame; simp [hg, h]

end

/-- A DIGIT frame that leaves the display registers alone changes nothing. -/
theorem exec_digit_of_same {k : Pos} {f : Frame} {s : State}
    (h : digitFrame s.cfg s.sampler.frameTotal k f s.display = s.display) : exec (Instr.digit k f) s = .next s := by
  rw [exec_digit, digitState, h]

/-- A DIGIT frame with an accepted character. -/
theorem exec_digit_of_awaited {k : Pos} {f : Frame} {s : State} {ch : Glyph} (hg : frameGlyph s.cfg f = some ch)
    (h : s.display.dpos = awaits k) :
    exec (Instr.digit k f) s =
      .next { s with display := acceptChar s.cfg s.sampler.frameTotal k ch s.display } := by
  rw [exec_digit, digitState, digitFrame_of_awaited hg h]

/-! ## A completed composite (R134, R135) -/

section
variable {c : Cfg} {fc : Nat} {v : Composite} {d : Display}

theorem processComposite_of_changed (h : d.latest ≠ some v) :
    processComposite c fc v d =
      { d with latest := some v, stableCnt := c.confirmDisp, blankCnt := c.confirmBlank } := by
  simp [processComposite, h]

theorem processComposite_of_counting (h : d.latest = some v) (hcnt : d.stableCnt ≠ 1#8) :
    processComposite c fc v d = { d with stableCnt := d.stableCnt - 1#8 } := by
  simp [processComposite, h, count_pred_ne_zero hcnt]

theorem processComposite_of_confirming (h : d.latest = some v) (hcnt : d.stableCnt = 1#8) :
    processComposite c fc v d = confirmed c fc v { d with stableCnt := c.confirmDisp } := by
  simp [processComposite, h, hcnt]

/-- A composite has no effect on the place in the pass (R133). -/
theorem processComposite_place (c : Cfg) (fc : Nat) (v : Composite) (d : Display) :
    (processComposite c fc v d).dpos = d.dpos ∧ (processComposite c fc v d).comp = d.comp := by
  rcases processComposite_cases c fc v d with ⟨_, e⟩ | ⟨_, _, e⟩ | ⟨_, _, e⟩ <;> rw [e]
  · exact ⟨rfl, rfl⟩
  · exact ⟨rfl, rfl⟩
  · obtain ⟨hdpos, hcomp, _⟩ := confirmed_frame c fc v { d with stableCnt := c.confirmDisp }
    exact ⟨hdpos, hcomp⟩

/-! ## A confirmed composite (R136, R140) -/

@[simp] theorem confirmed_blank4 : confirmed c fc .blank4 d = confirmedBlank c fc d := rfl

theorem confirmed_of_ne_blank4 (hv : v ≠ .blank4) : confirmed c fc v d = confirmedValue c fc v d := by
  simp [confirmed, isBlank, hv]

/-- R141: the episode-end test succeeds. -/
theorem confirmedValue_of_ending (h : d.blinking = true ∧ c.blinkStoppedFrames < fcAge c fc d.lastBlankFc) :
    confirmedValue c fc v d = handleValue c v (fcAge c fc d.lastBlankFc) (endBlinkEpisode d) := by
  simp [confirmedValue, h]

/-- R140: the episode-end test fails. -/
theorem confirmedValue_of_not_ending (h : ¬ (d.blinking = true ∧ c.blinkStoppedFrames < fcAge c fc d.lastBlankFc)) :
    confirmedValue c fc v d = handleValue c v (fcAge c fc d.lastBlankFc) d := by
  rw [confirmedValue]
  exact congrArg _ (if_neg (by simpa using h))

variable {age : Nat}

/-- R143. -/
theorem handleValue_of_error (h : v.c1 = c.errorMarker) :
    handleValue c v age d = { d with errCode := some ⟨v.c2, v.c3, v.c4⟩ } := by
  simp [handleValue, isError, h, latchError, Display.record, errorCodeOf]

/-- R144. -/
theorem handleValue_of_temp_blinking (h : isTemp c v = true) (hb : d.blinking = true) :
    handleValue c v age d = tempBlinking c v age d := by
  obtain ⟨herr, _⟩ := (isTemp_iff c v).mp h
  simp [handleValue, isError, herr, h, hb]

/-- R145. -/
theorem handleValue_of_temp_steady (h : isTemp c v = true) (hb : d.blinking = false) :
    handleValue c v age d = tempSteady c v d := by
  obtain ⟨herr, _⟩ := (isTemp_iff c v).mp h
  simp [handleValue, isError, herr, h, hb]

/-- R146, R147. -/
theorem handleValue_of_other (herr : v.c1 ≠ c.errorMarker) (hC : v.c4 ≠ c.unitC) (hF : v.c4 ≠ c.unitF) :
    handleValue c v age d =
      if c.durationMarker = some v.c4 then { d with pubDuration := some v } else d := by
  simp [handleValue, isError, isTemp, isDuration, publishDuration, herr, hC, hF]

/-- No confirmed value opens or ends an episode, counts a blink or publishes a desired reading; outside an episode it
leaves the candidate and its stability alone as well (R143 to R147). -/
theorem handleValue_blink (c : Cfg) (v : Composite) (age : Nat) (d : Display) :
    (handleValue c v age d).blinking = d.blinking ∧ (handleValue c v age d).blinkCount = d.blinkCount ∧
    (handleValue c v age d).pubDesired = d.pubDesired ∧
    (d.blinking = false → (handleValue c v age d).blinkPending = d.blinkPending ∧
      (handleValue c v age d).blinkStab = d.blinkStab) := by
  rcases handleValue_cases c v age d with ⟨_, e⟩ | ⟨_, hb, e⟩ | ⟨_, _, e⟩ | ⟨_, _, _, e⟩ | ⟨_, _, _, e⟩ <;> rw [e]
  · exact ⟨rfl, rfl, rfl, fun _ => ⟨rfl, rfl⟩⟩
  · have hopen : d.blinking ≠ false := by rw [hb]; decide
    rcases tempBlinking_cases c v age d with ⟨_, e⟩ | ⟨_, _, e⟩ | ⟨_, _, e⟩ <;> rw [e] <;>
      exact ⟨rfl, rfl, rfl, fun h => (hopen h).elim⟩
  · rcases tempSteady_cases c v d with ⟨_, _, e⟩ | ⟨_, _, e⟩ | ⟨_, e⟩ <;> rw [e] <;>
      exact ⟨rfl, rfl, rfl, fun _ => ⟨rfl, rfl⟩⟩
  · exact ⟨rfl, rfl, rfl, fun _ => ⟨rfl, rfl⟩⟩
  · exact ⟨rfl, rfl, rfl, fun _ => ⟨rfl, rfl⟩⟩

/-- R138: the blank counter goes from 1 to 0, and the blank is accepted. -/
theorem confirmedBlank_of_accepted (h : d.blankCnt = 1#8) :
    confirmedBlank c fc d = blankAccepted c { d with blankCnt := 0#8, lastBlankFc := fc } := by
  simp [confirmedBlank, h]

/-- R139: when only the fifth of the conditions fails, the candidate is the published desired reading already. -/
theorem pubDesired_eq_of_not_ready {count : Count} (h : desiredReady c count d = false)
    (hcycles : c.blinkMinCycles ≤ count.toNat) (hpending : d.blinkPending ≠ none)
    (hstab : c.blinkTempFrames ≤ d.blinkStab.toNat) (herr : d.errCode = none) : d.pubDesired = d.blinkPending := by
  refine Classical.byContradiction fun hne => ?_
  rw [(desiredReady_iff c count d).mpr ⟨hcycles, hpending, hstab, herr, Ne.symm hne⟩] at h
  cases h

/-- A blank never ends an episode (R138, R139). -/
theorem confirmedBlank_keeps_blinking (h : d.blinking = true) : (confirmedBlank c fc d).blinking = true := by
  rcases confirmedBlank_cases c fc d with ⟨_, e⟩ | ⟨_, _, e⟩ | ⟨_, e⟩ <;> rw [e]
  · exact h
  · exact h
  · rcases blankAccepted_cases c { d with blankCnt := 0#8, lastBlankFc := fc } with
      ⟨_, e⟩ | ⟨_, _, e⟩ | ⟨_, _, e⟩ <;> rw [e]
    · exact h
    · exact h

/-- A confirmed composite ends an episode only as a value past the threshold (R141). -/
theorem confirmed_ends_blinking (h : d.blinking = true) (hend : (confirmed c fc v d).blinking = false) :
    v ≠ .blank4 ∧ c.blinkStoppedFrames < fcAge c fc d.lastBlankFc := by
  by_cases hv : v = .blank4
  · subst hv
    rw [confirmed_blank4, confirmedBlank_keeps_blinking h] at hend
    cases hend
  · refine ⟨hv, ?_⟩
    refine Classical.byContradiction fun hage => ?_
    rw [confirmed_of_ne_blank4 hv, confirmedValue_of_not_ending fun ⟨_, hold⟩ => hage hold] at hend
    obtain ⟨hkeep, _⟩ := handleValue_blink c v (fcAge c fc d.lastBlankFc) d
    rw [hkeep, h] at hend
    cases hend

theorem confirmedValue_pubDesired : (confirmedValue c fc v d).pubDesired = d.pubDesired := by
  have hkeep (d' : Display) : (handleValue c v (fcAge c fc d.lastBlankFc) d').pubDesired = d'.pubDesired := by
    obtain ⟨_, _, hdesired, _⟩ := handleValue_blink c v (fcAge c fc d.lastBlankFc) d'
    exact hdesired
  by_cases h : d.blinking = true ∧ c.blinkStoppedFrames < fcAge c fc d.lastBlankFc
  · rw [confirmedValue_of_ending h]
    exact hkeep _
  · rw [confirmedValue_of_not_ending h]
    exact hkeep _

/-- The desired reading changes only at an accepted blank that meets the conditions of R139. -/
theorem confirmed_changes_pubDesired (h : (confirmed c fc v d).pubDesired ≠ d.pubDesired) :
    v = .blank4 ∧ d.blankCnt = 1#8 ∧ d.blinking = true ∧ desiredReady c (satSucc d.blinkCount) d = true ∧
      (confirmed c fc v d).pubDesired = d.blinkPending ∧ (confirmed c fc v d).blankCnt = 0#8 := by
  by_cases hv : v = .blank4
  · subst hv
    rw [confirmed_blank4] at h ⊢
    rcases confirmedBlank_cases c fc d with ⟨_, e⟩ | ⟨_, _, e⟩ | ⟨hcnt, e⟩ <;> rw [e] at h ⊢
    · exact (h rfl).elim
    · exact (h rfl).elim
    · rcases blankAccepted_cases c { d with blankCnt := 0#8, lastBlankFc := fc } with
        ⟨_, e⟩ | ⟨hb, hready, e⟩ | ⟨_, _, e⟩ <;> rw [e] at h ⊢
      · exact (h rfl).elim
      · exact ⟨rfl, hcnt, hb, hready, rfl, rfl⟩
      · exact (h rfl).elim
  · rw [confirmed_of_ne_blank4 hv] at h
    exact (h confirmedValue_pubDesired).elim

end

/-! ## The display registers in a whole step (R112, R151) -/

section
variable {s t : State}

/-- A frame operation leaves the display registers alone, or the frame is a DIGIT frame (R151). -/
theorem dispatch_display {f : Frame} (h : dispatch f s = .next t) :
    t.display = s.display ∨ ∃ k, decodeFrame s.cfg f = Instr.digit k f ∧
      t.display = digitFrame s.cfg s.sampler.frameTotal k f s.display := by
  rw [dispatch_eq] at h
  unfold decodeFrame at h ⊢
  cases hsel : selectFrame s.cfg f with
  | digit k =>
    rw [hsel] at h
    obtain rfl := next_inj ((exec_digit k f s).symm.trans h)
    exact .inr ⟨k, rfl, rfl⟩
  | led =>
    rw [hsel] at h
    replace h : execFLed f s = .next t := h
    rcases execFLed_cases f s with ⟨_, e⟩ | ⟨_, _, e⟩ | ⟨_, _, e⟩ <;> (rw [e] at h; obtain rfl := next_inj h) <;>
      exact .inl rfl
  | button b =>
    rw [hsel] at h
    obtain rfl := next_inj ((exec_button b f s).symm.trans h)
    rcases buttonEcho_cases b s with ⟨_, e⟩ | ⟨_, e⟩ <;> (rw [e]; exact .inl rfl)
  | _ => rw [hsel] at h; obtain rfl := next_inj h; exact .inl rfl

/-- A clock edge leaves the display registers alone, or completes a DIGIT frame, which finds the total already counted
(R112; D31). -/
theorem clockEdge_display {d l : Level} (h : clockEdge d l s = .next t) :
    t.display = s.display ∨ ∃ f k, decodeFrame s.cfg f = Instr.digit k f ∧
      t.display = digitFrame s.cfg (wrapFc s.cfg (s.sampler.frameTotal + 1)) k f s.display := by
  obtain ⟨s1, hop, hend⟩ := clockEdge_cases h
  have hstart : (edgeStart l s).sampler.frameTotal = s.sampler.frameTotal := by rw [edgeStart_sampler]
  have hkeep : s1.display = s.display ∧ s1.cfg = s.cfg ∧
      (s1.sampler.nbits = 16#5 → s1.sampler.frameTotal = s.sampler.frameTotal) := by
    rcases hop with rfl | ⟨sr, rfl⟩ | rfl
    · exact ⟨edgeStart_display l s, edgeStart_cfg l s, fun _ => hstart⟩
    · exact ⟨edgeStart_display l s, edgeStart_cfg l s, fun _ => hstart⟩
    · exact ⟨edgeStart_display l s, edgeStart_cfg l s, nofun⟩
  obtain ⟨hdisplay, hcfg, htotal⟩ := hkeep
  rcases hend with ⟨rfl, _⟩ | ⟨h16, hcomplete⟩
  · exact .inl hdisplay
  · obtain ⟨u, hdispatch, rfl⟩ := execSComplete_next hcomplete
    rw [frameBoundary_display, ← hdisplay, ← hcfg, ← htotal h16]
    rcases dispatch_display hdispatch with hsame | ⟨k, hk, hdigit⟩
    · exact .inl hsame
    · exact .inr ⟨_, k, hk, hdigit⟩

/-- A step leaves the display registers alone, or completes a DIGIT frame on the counted total. -/
theorem step_display (h : step s = .next t) :
    t.display = s.display ∨ ∃ f k, decodeFrame s.cfg f = Instr.digit k f ∧
      t.display = digitFrame s.cfg (wrapFc s.cfg (s.sampler.frameTotal + 1)) k f s.display := by
  rcases step_cases s with ⟨_, e⟩ | ⟨ev, rest, _, e⟩ <;> rw [e] at h
  · obtain rfl := next_inj h; exact .inl rfl
  · rcases ev.clk_or_not with ⟨d, l, rfl⟩ | hclk
    · exact clockEdge_display (s := { s with world.inputs := rest }) h
    · obtain ⟨_, _, _, _, _, rfl, _⟩ := runEvent_frame hclk h
      exact .inl rfl

end

/-! ## Numbers and degrees (R148, R149) -/

theorem ne_blank_of_digit {ch : Glyph} {j : Nat} (h : digitOf ch = some j) : ch ≠ .blank := by
  rintro rfl
  cases h

theorem decimalFrom_nil (acc : Nat) : decimalFrom acc [] = some acc := rfl

theorem decimalFrom_cons_of_digit {acc j : Nat} {ch : Glyph} {rest : List Glyph} (h : digitOf ch = some j) :
    decimalFrom acc (ch :: rest) = decimalFrom (acc * 10 + j) rest := by
  rw [decimalFrom, h]

/-- A list of characters has a number only when the first one is a digit. -/
theorem digit_of_decimalFrom_cons {acc m : Nat} {ch : Glyph} {rest : List Glyph}
    (h : decimalFrom acc (ch :: rest) = some m) :
    ∃ j, digitOf ch = some j ∧ decimalFrom (acc * 10 + j) rest = some m := by
  cases hj : digitOf ch with
  | none => rw [decimalFrom, hj] at h; cases h
  | some j => exact ⟨j, rfl, (decimalFrom_cons_of_digit hj).symm.trans h⟩

section
variable {v : Composite}

/-! The characters that stand after the leading blanks of the first three (R148). -/

theorem shownChars_none (h1 : v.c1 = .blank) (h2 : v.c2 = .blank) (h3 : v.c3 = .blank) : shownChars v = [] := by
  unfold shownChars; rw [h1, h2, h3]; rfl

theorem shownChars_one (h1 : v.c1 = .blank) (h2 : v.c2 = .blank) (h3 : v.c3 ≠ .blank) : shownChars v = [v.c3] := by
  unfold shownChars
  rw [h1, h2]
  show [v.c3].dropWhile (· == .blank) = _
  exact List.dropWhile_cons_of_neg (by rw [beq_iff_eq]; exact h3)

theorem shownChars_two (h1 : v.c1 = .blank) (h2 : v.c2 ≠ .blank) : shownChars v = [v.c2, v.c3] := by
  unfold shownChars
  rw [h1]
  show [v.c2, v.c3].dropWhile (· == .blank) = _
  exact List.dropWhile_cons_of_neg (by rw [beq_iff_eq]; exact h2)

theorem shownChars_three (h1 : v.c1 ≠ .blank) : shownChars v = [v.c1, v.c2, v.c3] :=
  List.dropWhile_cons_of_neg (by rw [beq_iff_eq]; exact h1)

theorem parse3_of_none (h : shownChars v = []) : parse3 v = none := by
  unfold parse3; rw [h]

theorem parse3_of_shown {ch : Glyph} {rest : List Glyph} (h : shownChars v = ch :: rest) :
    parse3 v = (decimalFrom 0 (ch :: rest)).map Int.ofNat := by
  unfold parse3; rw [h]

/-- What the parser reads is the number of the characters shown. -/
theorem decimalFrom_of_parse3 {ch : Glyph} {rest : List Glyph} {n : Int} (hshown : shownChars v = ch :: rest)
    (h : parse3 v = some n) : ∃ m : Nat, decimalFrom 0 (ch :: rest) = some m ∧ n = m := by
  rw [parse3_of_shown hshown, Option.map_eq_some_iff] at h
  obtain ⟨m, hm, rfl⟩ := h
  exact ⟨m, hm, rfl⟩

/-- One, two or three digits after leading blanks are read as their decimal number. -/
theorem parse3_of_one {k : Nat} (h1 : v.c1 = .blank) (h2 : v.c2 = .blank) (h3 : digitOf v.c3 = some k) :
    parse3 v = some (k : Int) := by
  rw [parse3_of_shown (shownChars_one h1 h2 (ne_blank_of_digit h3)), decimalFrom_cons_of_digit h3, decimalFrom_nil,
    Nat.zero_mul, Nat.zero_add]
  rfl

theorem parse3_of_two {j k : Nat} (h1 : v.c1 = .blank) (h2 : digitOf v.c2 = some j) (h3 : digitOf v.c3 = some k) :
    parse3 v = some ((j * 10 + k : Nat) : Int) := by
  rw [parse3_of_shown (shownChars_two h1 (ne_blank_of_digit h2)), decimalFrom_cons_of_digit h2,
    decimalFrom_cons_of_digit h3, decimalFrom_nil, Nat.zero_mul, Nat.zero_add]
  rfl

theorem parse3_of_three {i j k : Nat} (h1 : digitOf v.c1 = some i) (h2 : digitOf v.c2 = some j)
    (h3 : digitOf v.c3 = some k) : parse3 v = some (((i * 10 + j) * 10 + k : Nat) : Int) := by
  rw [parse3_of_shown (shownChars_three (ne_blank_of_digit h1)), decimalFrom_cons_of_digit h1,
    decimalFrom_cons_of_digit h2, decimalFrom_cons_of_digit h3, decimalFrom_nil, Nat.zero_mul, Nat.zero_add]
  rfl

end

theorem inRange_cases (c : Cfg) (t : Int) :
    (c.tempMin ≤ t ∧ t ≤ c.tempMax → inRange c t = some t) ∧
      (¬ (c.tempMin ≤ t ∧ t ≤ c.tempMax) → inRange c t = none) := by
  unfold inRange
  exact ⟨fun hin => if_neg (by omega), fun hout => if_pos (by omega)⟩

/-- The conversion rounds to the nearest integer; no difference is a half, so none is the nearest twice (R149). -/
theorem fahrenheitToCelsius_nearest (n : Int) : (2 * (9 * fahrenheitToCelsius n - 5 * (n - 32))).natAbs < 9 := by
  unfold fahrenheitToCelsius
  omega

end Sys2Proof.Machine

namespace Sys2Proof.Claims

open Sys2Proof Sys2Proof.Machine

/-! ## The terms of the claims in terms of the decoder's functions -/

section
variable {f : Frame} {s : State} {v : Composite} {d : Display}

theorem exec_of_completes (h : CompletesComposite s f v) :
    exec (.fDigitP4 f) s = .next { s with
      display := processComposite s.cfg s.sampler.frameTotal v { s.display with comp := v, dpos := .aw1 } } := by
  obtain ⟨hdpos, ch, hch, rfl⟩ := h
  exact exec_digit_of_awaited (k := .p4) hch hdpos

theorem exec_of_confirms (h : Confirms s f v) :
    exec (.fDigitP4 f) s = .next { s with
      display := confirmed s.cfg s.sampler.frameTotal v (onConfirm s v) } := by
  obtain ⟨hcomplete, hlatest, hcnt⟩ := h
  rw [exec_of_completes hcomplete,
    processComposite_of_confirming (d := { s.display with comp := v, dpos := .aw1 }) hlatest hcnt]
  rfl

theorem fcAge_eq_age (h : CountersFit s) : fcAge s.cfg s.sampler.frameTotal s.display.lastBlankFc = age s := by
  obtain ⟨htotal, hlast⟩ := h
  exact fcAge_of_lt htotal hlast

/-- The episode-end test of R140 as the decoder evaluates it. Without an episode the age plays no part. -/
theorem endTest_iff (h : s.display.blinking = false ∨ CountersFit s) :
    s.display.blinking = true ∧ s.cfg.blinkStoppedFrames < fcAge s.cfg s.sampler.frameTotal s.display.lastBlankFc ↔
      EndsEpisode s := by
  rcases h with hb | hfit
  · simp [EndsEpisode, hb]
  · rw [fcAge_eq_age hfit, EndsEpisode]

/-- A confirmed value is handled in the registers that the episode-end test leaves (R140). -/
theorem exec_of_confirms_value (hage : s.display.blinking = false ∨ CountersFit s) (h : Confirms s f v)
    (hv : v ≠ .blank4) (hd : AfterEpisodeTest s v d) :
    exec (.fDigitP4 f) s = .next { s with
      display := handleValue s.cfg v (fcAge s.cfg s.sampler.frameTotal s.display.lastBlankFc) d } := by
  rw [exec_of_confirms h, confirmed_of_ne_blank4 hv]
  rcases hd with ⟨hopen, rfl⟩ | ⟨hends, rfl⟩
  · rw [confirmedValue_of_not_ending (d := onConfirm s v) fun htest => hopen ((endTest_iff hage).mp htest)]
    rfl
  · rw [confirmedValue_of_ending (d := onConfirm s v) ((endTest_iff hage).mpr hends)]
    rfl

/-- A DIGIT frame confirms a composite at position 4, or neither ends an episode nor changes the desired reading. -/
theorem digitFrame_confirms_or_keeps (k : Pos) (f : Frame) (s : State) (fc : Nat) :
    (k = .p4 ∧ ∃ v, Confirms s f v ∧
      digitFrame s.cfg fc k f s.display = confirmed s.cfg fc v (onConfirm s v)) ∨
    ((digitFrame s.cfg fc k f s.display).blinking = s.display.blinking ∧
      (digitFrame s.cfg fc k f s.display).pubDesired = s.display.pubDesired) := by
  rcases digitFrame_cases s.cfg fc k f s.display with ⟨_, e⟩ | ⟨ch, _, _, _, e⟩ | ⟨ch, hch, hdpos, hk, e⟩ <;> rw [e]
  · exact .inr ⟨rfl, rfl⟩
  · exact .inr ⟨rfl, rfl⟩
  · rcases processComposite_cases s.cfg fc { s.display.comp with c4 := ch }
      { s.display with comp := { s.display.comp with c4 := ch }, dpos := .aw1 } with
      ⟨_, e⟩ | ⟨_, _, e⟩ | ⟨hlatest, hcnt, e⟩ <;> rw [e]
    · exact .inr ⟨rfl, rfl⟩
    · exact .inr ⟨rfl, rfl⟩
    · exact .inl ⟨hk, _, ⟨⟨hdpos, ch, hch, rfl⟩, hlatest, hcnt⟩, rfl⟩

/-- A DIGIT frame ends an episode only by confirming a value past the threshold (R141). -/
theorem digitFrame_ends_blinking {k : Pos} (hfit : CountersFit s) (hb : s.display.blinking = true)
    (hend : (digitFrame s.cfg s.sampler.frameTotal k f s.display).blinking = false) :
    k = .p4 ∧ EndsEpisode s ∧ ∃ v, v ≠ .blank4 ∧ Confirms s f v := by
  rcases digitFrame_confirms_or_keeps k f s s.sampler.frameTotal with ⟨hk, v, hconfirms, e⟩ | ⟨hkeep, _⟩
  · rw [e] at hend
    obtain ⟨hv, hage⟩ := confirmed_ends_blinking (d := onConfirm s v) hb hend
    exact ⟨hk, ⟨hb, fcAge_eq_age hfit ▸ hage⟩, v, hv, hconfirms⟩
  · rw [hkeep, hb] at hend
    cases hend

end

/-! ## Frames without effect and stored characters -/

/-- Settles O15. -/
theorem unknownPatternChangesNothing : Obligations.UnknownPatternChangesNothing := fun _ _ _ hrows =>
  exec_digit_of_same (digitFrame_of_unknown (decodeGlyph_eq_none hrows))

/-- Settles O16. -/
theorem positionNotAwaitedChangesNothing : Obligations.PositionNotAwaitedChangesNothing := by
  have ignored : ∀ (k : Pos) (f : Frame) (s : State), s.display.dpos ≠ awaits k →
      exec (Instr.digit k f) s = .next s := fun _ _ _ h => exec_digit_of_same (digitFrame_of_not_awaited h)
  exact fun f s => ⟨ignored .p1 f s, ignored .p2 f s, ignored .p3 f s, ignored .p4 f s⟩

/-- Settles O17: positions 1 to 3 store the character and no more; at position 4 the composite leaves the place in the
pass alone. -/
theorem acceptedCharacterIsStored : Obligations.AcceptedCharacterIsStored := by
  intro f s ch hch
  have accepted : ∀ k : Pos, s.display.dpos = awaits k → exec (Instr.digit k f) s =
      .next { s with display := acceptChar s.cfg s.sampler.frameTotal k ch s.display } :=
    fun _ => exec_digit_of_awaited hch
  refine ⟨accepted .p1, accepted .p2, accepted .p3, fun h => ⟨_, accepted .p4 h, ?_⟩⟩
  obtain ⟨hdpos, hcomp⟩ := processComposite_place s.cfg s.sampler.frameTotal { s.display.comp with c4 := ch }
    { s.display with comp := { s.display.comp with c4 := ch }, dpos := .aw1 }
  exact ⟨hcomp, hdpos⟩

/-! ## Completed composites -/

/-- Settles O19. -/
theorem changedCompositeBecomesReference : Obligations.ChangedCompositeBecomesReference := by
  intro f s v hcomplete hlatest
  rw [exec_of_completes hcomplete,
    processComposite_of_changed (d := { s.display with comp := v, dpos := .aw1 }) hlatest]

/-- Settles O18: the counter goes from 1 to its reload value and from any other value down by one. -/
theorem equalCompositeCountsDown : Obligations.EqualCompositeCountsDown := by
  intro f s v hcomplete hlatest
  have counting (hcnt : s.display.stableCnt ≠ 1#8) : exec (.fDigitP4 f) s = .next { s with
      display := { s.display with comp := v, dpos := .aw1, stableCnt := s.display.stableCnt - 1#8 } } := by
    rw [exec_of_completes hcomplete,
      processComposite_of_counting (d := { s.display with comp := v, dpos := .aw1 }) hlatest hcnt]
  have confirming (hcnt : s.display.stableCnt = 1#8) : exec (.fDigitP4 f) s = .next { s with
      display := confirmed s.cfg s.sampler.frameTotal v (onConfirm s v) } :=
    exec_of_confirms ⟨hcomplete, hlatest, hcnt⟩
  refine ⟨counting, confirming, fun _ hreload => ?_⟩
  by_cases hcnt : s.display.stableCnt = 1#8
  · obtain ⟨_, _, _, hstable⟩ := confirmed_frame s.cfg s.sampler.frameTotal v (onConfirm s v)
    exact ⟨_, confirming hcnt, fun hzero => hreload (hstable.symm.trans hzero)⟩
  · exact ⟨_, counting hcnt, count_pred_ne_zero hcnt⟩

/-! ## Confirmed blanks -/

/-- Settles O20. -/
theorem confirmedBlankDebounce : Obligations.ConfirmedBlankDebounce := by
  intro f s hconfirms
  rw [exec_of_confirms hconfirms, confirmed_blank4]
  rcases confirmedBlank_cases s.cfg s.sampler.frameTotal (onConfirm s .blank4) with
    ⟨h0, e⟩ | ⟨h0, h1, e⟩ | ⟨h1, e⟩ <;> rw [e]
  · exact ⟨fun _ => rfl, fun hne => (hne h0).elim⟩
  · exact ⟨fun hzero => (h0 hzero).elim, fun _ _ => rfl⟩
  · exact ⟨fun hzero => absurd (hzero.symm.trans h1) (by decide), fun _ hne => (hne h1).elim⟩

/-- Settles O21. The fifth condition of R139 only spares a publish that would change nothing. -/
theorem acceptedBlankCountsAndPublishes : Obligations.AcceptedBlankCountsAndPublishes := by
  intro f s hconfirms hcnt
  rw [exec_of_confirms hconfirms, confirmed_blank4, confirmedBlank_of_accepted (d := onConfirm s .blank4) hcnt]
  rcases blankAccepted_cases s.cfg { onConfirm s .blank4 with
      blankCnt := 0#8, lastBlankFc := s.sampler.frameTotal } with
    ⟨hb, e⟩ | ⟨hb, hready, e⟩ | ⟨hb, hready, e⟩ <;> rw [e]
  · exact ⟨fun _ => rfl, fun hopen => absurd (hb.symm.trans hopen) (by decide)⟩
  · obtain ⟨hcycles, hpending, hstab, herr, _⟩ := (desiredReady_iff _ _ _).mp hready
    exact ⟨fun hclosed => absurd (hb.symm.trans hclosed) (by decide), fun _ =>
      ⟨_, _, satSucc_toNat _, fun _ => rfl, fun hnot => (hnot ⟨hcycles, hpending, hstab, herr⟩).elim, rfl⟩⟩
  · exact ⟨fun hclosed => absurd (hb.symm.trans hclosed) (by decide), fun _ =>
      ⟨_, _, satSucc_toNat _, fun ⟨hcycles, hpending, hstab, herr⟩ =>
        pubDesired_eq_of_not_ready hready hcycles hpending hstab herr, fun _ => rfl, rfl⟩⟩

/-! ## Confirmed values -/

/-- Settles O22. A whole step is a DIGIT frame on the counted total, or leaves the episode alone. -/
theorem blinkEpisodeEnds : Obligations.BlinkEpisodeEnds := by
  refine ⟨fun f s v hfit hconfirms hv hends => ?_, fun k f s t hfit ht hb hend => ?_, fun s t hfit ht hb hend => ?_⟩
  · refine ⟨_, exec_of_confirms_value (.inr hfit) hconfirms hv (.inr ⟨hends, rfl⟩), ?_⟩
    obtain ⟨hclosed, hcount, hdesired, hsteady⟩ := handleValue_blink s.cfg v
      (fcAge s.cfg s.sampler.frameTotal s.display.lastBlankFc)
      { onConfirm s v with blinking := false, blinkPending := none, blinkStab := 0#8 }
    obtain ⟨hpending, hstab⟩ := hsteady rfl
    exact ⟨hclosed, hpending, hstab, hcount, hdesired⟩
  · obtain rfl := next_inj ((exec_digit k f s).symm.trans ht)
    exact digitFrame_ends_blinking hfit hb hend
  · obtain ⟨_, hlast⟩ := hfit
    rcases step_display ht with hsame | ⟨f, k, hk, hdigit⟩
    · rw [hsame, hb] at hend
      cases hend
    · rw [hdigit] at hend
      obtain ⟨rfl, hends, v, hv, hconfirms⟩ :=
        digitFrame_ends_blinking (s := afterCount s) ⟨wrapFc_lt _ _, hlast⟩ hb hend
      exact ⟨hends, f, v, hk, hv, hconfirms⟩

/-- Settles O23. -/
theorem confirmedErrorIsLatched : Obligations.ConfirmedErrorIsLatched := by
  intro f s v hfit hconfirms hv herr
  have latched {d : Display} (hd : AfterEpisodeTest s v d) : exec (.fDigitP4 f) s = .next { s with
      display := { d with errCode := some ⟨v.c2, v.c3, v.c4⟩ } } := by
    rw [exec_of_confirms_value (.inr hfit) hconfirms hv hd, handleValue_of_error herr]
  exact ⟨fun hopen => latched (.inl ⟨hopen, rfl⟩), fun hends => latched (.inr ⟨hends, rfl⟩)⟩

/-- Settles O24. -/
theorem confirmedTemperatureWhileBlinking : Obligations.ConfirmedTemperatureWhileBlinking := by
  intro f s v hfit hconfirms hv htemp hb hopen
  have hrun : exec (.fDigitP4 f) s = .next { s with
      display := tempBlinking s.cfg v (age s) (onConfirm s v) } := by
    rw [exec_of_confirms_value (.inr hfit) hconfirms hv (.inl ⟨hopen, rfl⟩),
      handleValue_of_temp_blinking (d := onConfirm s v) ((isTemp_iff _ _).mpr htemp) hb, fcAge_eq_age hfit]
  rw [hrun]
  rcases tempBlinking_cases s.cfg v (age s) (onConfirm s v) with ⟨hp, e⟩ | ⟨hp, hage, e⟩ | ⟨hp, hage, e⟩ <;> rw [e]
  · exact ⟨fun _ => ⟨_, satSucc_toNat _, rfl⟩, fun hne => (hne hp).elim, fun hne => (hne hp).elim⟩
  · exact ⟨fun heq => (hp heq).elim, fun _ _ => rfl, fun _ hold => (hold hage).elim⟩
  · exact ⟨fun heq => (hp heq).elim, fun _ hyoung => (hage hyoung).elim, fun _ _ => rfl⟩

/-- The episode-end test writes blink registers only (R141). -/
theorem AfterEpisodeTest.actual {s : State} {v : Composite} {d : Display} (h : AfterEpisodeTest s v d) :
    d.actualCand = s.display.actualCand ∧ d.actualCnt = s.display.actualCnt := by
  rcases h with ⟨_, rfl⟩ | ⟨_, rfl⟩ <;> exact ⟨rfl, rfl⟩

/-- Settles O25. -/
theorem confirmedTemperatureWhileSteady : Obligations.ConfirmedTemperatureWhileSteady := by
  intro f s v d hage hconfirms hv htemp hd hb
  obtain ⟨hcand, hcnt⟩ := hd.actual
  rw [exec_of_confirms_value hage hconfirms hv hd, handleValue_of_temp_steady ((isTemp_iff _ _).mpr htemp) hb, ← hcand,
    ← hcnt]
  rcases tempSteady_cases s.cfg v d with ⟨hc, h1, e⟩ | ⟨hc, h1, e⟩ | ⟨hc, e⟩ <;> rw [e]
  · exact ⟨fun _ _ => rfl, fun _ hne => (hne h1).elim, fun hne => (hne hc).elim⟩
  · exact ⟨fun _ heq => (h1 heq).elim, fun _ _ => rfl, fun hne => (hne hc).elim⟩
  · exact ⟨fun heq => (hc heq).elim, fun heq => (hc heq).elim, fun _ => rfl⟩

/-- Settles O26. -/
theorem confirmedDurationAndUnsupported : Obligations.ConfirmedDurationAndUnsupported := by
  intro f s v d hage hconfirms hv herr hC hF hd
  rw [exec_of_confirms_value hage hconfirms hv hd, handleValue_of_other herr hC hF]
  exact ⟨fun hmarker => by rw [if_pos hmarker], fun hmarker => by rw [if_neg hmarker]⟩

/-! ## The desired reading in a whole step -/

/-- Settles O28. -/
theorem desiredReadingChangesOnlyAtABlink : Obligations.DesiredReadingChangesOnlyAtABlink := by
  intro s t ht hne
  rcases step_display ht with hsame | ⟨f, k, _, hdigit⟩
  · exact (hne (by rw [hsame])).elim
  · rw [hdigit] at hne ⊢
    rcases digitFrame_confirms_or_keeps k f s (wrapFc s.cfg (s.sampler.frameTotal + 1)) with
      ⟨_, v, ⟨⟨hdpos, _⟩, hlatest, hstable⟩, e⟩ | ⟨_, hkeep⟩
    · rw [e] at hne ⊢
      obtain ⟨rfl, hblank, hb, hready, hdesired, hzero⟩ := confirmed_changes_pubDesired (d := onConfirm s v) hne
      obtain ⟨hcycles, hpending, hstab, herr, _⟩ := (desiredReady_iff _ _ _).mp hready
      rw [satSucc_toNat] at hcycles
      exact ⟨hb, herr, hdpos, hstable, hlatest, hblank, hzero, hpending, hdesired, hstab, hcycles⟩
    · exact (hne hkeep).elim

/-! ## The latency of a steady temperature (R271) -/

/-- The confirmations of `v` that follow the running one until it is published (R145). -/
def confirmationsLeft (c : Cfg) (v : Composite) (d : Display) : Nat :=
  if d.actualCand = some v then d.actualCnt.toNat - 1 else c.confirmActual.toNat

/-- The composites of an unbroken run of `v` until it is published: what is left of the stable counter for the running
confirmation, and `CONFIRM_DISP` for every later one. -/
def compositesLeft (c : Cfg) (v : Composite) (d : Display) : Nat :=
  d.stableCnt.toNat + c.confirmDisp.toNat * confirmationsLeft c v d

/-- An unbroken run of the composite `v` outside an episode: `v` is the reference, and no counter rests at 0. -/
structure InRun (v : Composite) (d : Display) : Prop where
  steady : d.blinking = false
  latest : d.latest = some v
  stableCnt : d.stableCnt ≠ 0#8
  actualCnt : d.actualCand = some v → d.actualCnt ≠ 0#8

section
variable {c : Cfg} {v : Composite} {d : Display}

/-- A confirmed temperature outside an episode, whatever the frame counter reads. -/
theorem confirmed_of_temp_steady (hv : v ≠ .blank4) (htemp : ShowsTemperature c v) (hb : d.blinking = false)
    (fc : Nat) : confirmed c fc v d = tempSteady c v d := by
  rw [confirmed_of_ne_blank4 hv, confirmedValue_of_not_ending fun ⟨hopen, _⟩ => (by rw [hb] at hopen; cases hopen)]
  exact handleValue_of_temp_steady ((isTemp_iff _ _).mpr htemp) hb

/-- A run begins with the composite that becomes the reference, every confirmation still to come (R135). -/
theorem inRun_of_changed (hdisp : c.confirmDisp ≠ 0#8) (hb : d.blinking = false) (hlatest : d.latest ≠ some v)
    (hcand : d.actualCand ≠ some v) (fc : Nat) :
    InRun v (processComposite c fc v d) ∧ (processComposite c fc v d).pubActual = d.pubActual ∧
      compositesLeft c v (processComposite c fc v d) = c.confirmDisp.toNat * (c.confirmActual.toNat + 1) := by
  rw [processComposite_of_changed hlatest]
  refine ⟨⟨hb, rfl, hdisp, fun h => (hcand h).elim⟩, rfl, ?_⟩
  simp only [compositesLeft, confirmationsLeft, hcand, if_false, Nat.mul_add_one]
  exact Nat.add_comm _ _

/-- One confirmation in a run: the publish when no later one is left, else one is left less. -/
theorem InRun.after_confirmation (h : InRun v d) (hactual : c.confirmActual ≠ 0#8) :
    (confirmationsLeft c v d = 0 ∧ (tempSteady c v d).pubActual = some v) ∨
    (confirmationsLeft c v d = confirmationsLeft c v (tempSteady c v d) + 1 ∧
      (tempSteady c v d).pubActual = d.pubActual ∧ (tempSteady c v d).stableCnt = d.stableCnt ∧
      InRun v (tempSteady c v d)) := by
  unfold confirmationsLeft
  rcases tempSteady_cases c v d with ⟨hc, hcnt, e⟩ | ⟨hc, hcnt, e⟩ | ⟨hc, e⟩ <;> rw [e]
  · exact .inl ⟨by simp [hc, hcnt], rfl⟩
  · have hpos := h.actualCnt hc
    refine .inr ⟨?_, rfl, rfl, { h with actualCnt := fun _ => count_pred_ne_zero hcnt }⟩
    simp only [hc, if_true]
    bv_omega
  · refine .inr ⟨?_, rfl, rfl, { h with actualCnt := fun _ => hactual }⟩
    simp only [hc, if_true, if_false]
    bv_omega

/-- One composite of a run: the publish when it is the last one left, else one is left less. -/
theorem InRun.after_composite (h : InRun v d) (hdisp : c.confirmDisp ≠ 0#8) (hactual : c.confirmActual ≠ 0#8)
    (hv : v ≠ .blank4) (htemp : ShowsTemperature c v) (fc : Nat) :
    (compositesLeft c v d = 1 ∧ (processComposite c fc v d).pubActual = some v) ∨
    (compositesLeft c v d = compositesLeft c v (processComposite c fc v d) + 1 ∧
      (processComposite c fc v d).pubActual = d.pubActual ∧ InRun v (processComposite c fc v d)) := by
  by_cases hcnt : d.stableCnt = 1#8
  · have hrun : InRun v { d with stableCnt := c.confirmDisp } := { h with stableCnt := hdisp }
    rw [processComposite_of_confirming h.latest hcnt, confirmed_of_temp_steady hv htemp hrun.steady]
    have hsplit : compositesLeft c v d =
        1 + c.confirmDisp.toNat * confirmationsLeft c v { d with stableCnt := c.confirmDisp } := by
      rw [compositesLeft, hcnt]
      rfl
    rcases hrun.after_confirmation hactual with ⟨hlast, hpub⟩ | ⟨hleft, hpub, hstable, hnext⟩
    · exact .inl ⟨by rw [hsplit, hlast, Nat.mul_zero], hpub⟩
    · refine .inr ⟨?_, hpub, hnext⟩
      rw [hsplit, hleft, compositesLeft, hstable, Nat.mul_add_one]
      dsimp only
      omega
  · rw [processComposite_of_counting h.latest hcnt]
    have hpos := h.stableCnt
    have hpred : d.stableCnt.toNat = (d.stableCnt - 1#8).toNat + 1 := by bv_omega
    refine .inr ⟨?_, rfl, { h with stableCnt := count_pred_ne_zero hcnt }⟩
    show d.stableCnt.toNat + c.confirmDisp.toNat * confirmationsLeft c v d =
      (d.stableCnt - 1#8).toNat + c.confirmDisp.toNat * confirmationsLeft c v d + 1
    omega

/-- A run publishes at the composite that `compositesLeft` counts, and not before. -/
theorem InRun.publishes (h : InRun v d) (hdisp : c.confirmDisp ≠ 0#8) (hactual : c.confirmActual ≠ 0#8)
    (hv : v ≠ .blank4) (htemp : ShowsTemperature c v) (fcs : List Nat) :
    (fcs.length < compositesLeft c v d → (feedComposite c v fcs d).pubActual = d.pubActual) ∧
    (fcs.length = compositesLeft c v d → (feedComposite c v fcs d).pubActual = some v) := by
  induction fcs generalizing d with
  | nil =>
    have hpos := h.stableCnt
    have hleft : 0 < compositesLeft c v d := Nat.add_pos_left (by bv_omega) _
    exact ⟨fun _ => rfl, fun heq => absurd heq (Nat.ne_of_lt hleft)⟩
  | cons fc fcs ih =>
    simp only [List.length_cons, feedComposite]
    rcases h.after_composite hdisp hactual hv htemp fc with ⟨hlast, hpub⟩ | ⟨hleft, hpub, hnext⟩
    · refine ⟨fun hlt => by omega, fun heq => ?_⟩
      obtain rfl : fcs = [] := List.eq_nil_of_length_eq_zero (by omega)
      exact hpub
    · obtain ⟨hbefore, hat⟩ := ih hnext
      exact ⟨fun hlt => (hbefore (by omega)).trans hpub, fun heq => hat (by omega)⟩

end

/-- Settles O27: the first composite begins the run, the others are those it has left. -/
theorem steadyTemperatureLatency : Obligations.SteadyTemperatureLatency := by
  intro c v d fcs hdisp hactual hv htemp hb hlatest hcand
  cases fcs with
  | nil => exact ⟨fun _ => rfl, fun heq => by rw [List.length_nil] at heq; omega⟩
  | cons fc fcs =>
    obtain ⟨hrun, hpub, hleft⟩ := inRun_of_changed hdisp hb hlatest hcand fc
    obtain ⟨hbefore, hat⟩ := hrun.publishes hdisp hactual hv htemp fcs
    rw [hleft] at hbefore hat
    rw [List.length_cons, feedComposite]
    exact ⟨fun hlt => (hbefore (by omega)).trans hpub, fun heq => hat (by omega)⟩

/-! ## The temperature of a composite (R149) -/

/-- The digit characters and their values, as the parser reads them. -/
theorem mem_digitValues_iff (ch : Glyph) (n : Int) :
    (ch, n) ∈ digitValues ↔ ∃ d : Nat, digitOf ch = some d ∧ n = d := by
  cases ch <;> simp [digitValues, digitOf]

section
variable {v : Composite} {n : Int}

/-- A number that the parser reads is shown (R148): the case split is that of the leading blanks. -/
theorem showsNumber_of_parse3 (h : parse3 v = some n) : ShowsNumber v n := by
  have isDigit {ch : Glyph} {j : Nat} (hj : digitOf ch = some j) : (ch, (j : Int)) ∈ digitValues :=
    (mem_digitValues_iff _ _).mpr ⟨j, hj, rfl⟩
  by_cases h1 : v.c1 = .blank
  · by_cases h2 : v.c2 = .blank
    · by_cases h3 : v.c3 = .blank
      · rw [parse3_of_none (shownChars_none h1 h2 h3)] at h
        cases h
      · obtain ⟨m, hm, rfl⟩ := decimalFrom_of_parse3 (shownChars_one h1 h2 h3) h
        obtain ⟨k, hk, hm⟩ := digit_of_decimalFrom_cons hm
        obtain rfl : 0 * 10 + k = m := Option.some.inj hm
        exact .inl ⟨h1, h2, by rw [Nat.zero_mul, Nat.zero_add]; exact isDigit hk⟩
    · obtain ⟨m, hm, rfl⟩ := decimalFrom_of_parse3 (shownChars_two h1 h2) h
      obtain ⟨j, hj, hm⟩ := digit_of_decimalFrom_cons hm
      obtain ⟨k, hk, hm⟩ := digit_of_decimalFrom_cons hm
      obtain rfl : (0 * 10 + j) * 10 + k = m := Option.some.inj hm
      exact .inr (.inl ⟨h1, j, k, isDigit hj, isDigit hk, by omega⟩)
  · obtain ⟨m, hm, rfl⟩ := decimalFrom_of_parse3 (shownChars_three h1) h
    obtain ⟨i, hi, hm⟩ := digit_of_decimalFrom_cons hm
    obtain ⟨j, hj, hm⟩ := digit_of_decimalFrom_cons hm
    obtain ⟨k, hk, hm⟩ := digit_of_decimalFrom_cons hm
    obtain rfl : ((0 * 10 + i) * 10 + j) * 10 + k = m := Option.some.inj hm
    exact .inr (.inr ⟨i, j, k, isDigit hi, isDigit hj, isDigit hk, by omega⟩)

/-- The parser reads the number that the composite shows, and no other (R148). -/
theorem parse3_eq_some_iff : parse3 v = some n ↔ ShowsNumber v n := by
  refine ⟨showsNumber_of_parse3, ?_⟩
  rintro (⟨h1, h2, h3⟩ | ⟨h1, _, _, h2, h3, rfl⟩ | ⟨_, _, _, h1, h2, h3, rfl⟩)
  · obtain ⟨k, hk, rfl⟩ := (mem_digitValues_iff _ _).mp h3
    exact parse3_of_one h1 h2 hk
  · obtain ⟨j, hj, rfl⟩ := (mem_digitValues_iff _ _).mp h2
    obtain ⟨k, hk, rfl⟩ := (mem_digitValues_iff _ _).mp h3
    rw [parse3_of_two h1 hj hk, Option.some.injEq]
    omega
  · obtain ⟨i, hi, rfl⟩ := (mem_digitValues_iff _ _).mp h1
    obtain ⟨j, hj, rfl⟩ := (mem_digitValues_iff _ _).mp h2
    obtain ⟨k, hk, rfl⟩ := (mem_digitValues_iff _ _).mp h3
    rw [parse3_of_three hi hj hk, Option.some.injEq]
    omega

/-- A composite that shows no number has no temperature. -/
theorem celsius_of_no_number (c : Cfg) (h : ∀ n, ¬ ShowsNumber v n) : celsius c (some v) = none := by
  have hparse : parse3 v = none := Option.eq_none_iff_forall_ne_some.mpr fun n hn => h n (parse3_eq_some_iff.mp hn)
  simp [celsius, hparse]

/-- The temperature of a composite that shows a number: its degrees, when they are in the closed range (R149). -/
theorem celsius_of_number (c : Cfg) (h : ShowsNumber v n) :
    celsius c (some v) = (degrees c v n).bind (inRange c) := by
  simp only [celsius, parse3_eq_some_iff.mpr h]
  cases degrees c v n <;> rfl

end

/-- Settles O50. -/
theorem celsiusConversion : Obligations.CelsiusConversion := by
  refine fun c v => ⟨rfl, celsius_of_no_number c, fun hC hF => ?_, fun n hn hC => ?_, fun n hn hC hF => ?_,
    fun _ => parse3_eq_some_iff⟩
  · by_cases hn : ∃ n, ShowsNumber v n
    · obtain ⟨n, hn⟩ := hn
      simp [celsius_of_number c hn, degrees, hC, hF]
    · exact celsius_of_no_number c (not_exists.mp hn)
  · have hdegrees : degrees c v n = some n := by simp [degrees, hC]
    rw [celsius_of_number c hn, hdegrees]
    exact inRange_cases c n
  · have hdegrees : degrees c v n = some (fahrenheitToCelsius n) := by
      unfold degrees
      rw [if_neg (by simpa using hC), if_pos (by simpa using hF)]
    rw [celsius_of_number c hn, hdegrees]
    exact ⟨_, fahrenheitToCelsius_nearest n, inRange_cases c _⟩

end Sys2Proof.Claims

/-! SUPPORT. The LED/Status Decoder: what an LED frame does in each of its three cases, what a run of equal LED frames does,
and the statements about them. -/

namespace Sys2Proof.Machine

/-! ## The buzzer of a lamp value (R161, R163) -/

/-- The buzzer is active exactly when the no-beep lamp is off. -/
theorem buzzerOf_iff (c : Cfg) (f : Frame) : buzzerOf c f = true ↔ f &&& c.lampNoBeep = 0#16 := by
  simp [buzzerOf, hits]

section
variable {f : Frame} {s : State}

/-- A silent value leaves the press counters as they are. -/
theorem publishLed_of_silent (h : f &&& s.cfg.lampNoBeep ≠ 0#16) :
    publishLed f s = { s with led.cnt := s.cfg.confirmLed, led.pubLed := some f, stateUpdated := true } := by
  rw [publishLed, if_neg (mt (buzzerOf_iff _ _).mp h)]

/-- A value with an active buzzer zeroes every press counter, whatever was published before (decision D18). -/
theorem publishLed_of_buzzer (h : f &&& s.cfg.lampNoBeep = 0#16) :
    publishLed f s = { s with
      led.cnt := s.cfg.confirmLed, led.pubLed := some f, stateUpdated := true, press := PressFile.zero } := by
  rw [publishLed, if_pos ((buzzerOf_iff _ _).mpr h)]

/-! ## One LED frame (R160) -/

/-- A value other than the reference becomes the reference (R162). -/
theorem exec_fLed_of_changed (h : s.led.latest ≠ some f) : exec (.fLed f) s = .next (ledChange f s) := by
  rcases execFLed_cases f s with ⟨_, e⟩ | ⟨hlatest, _⟩ | ⟨hlatest, _⟩
  · exact e
  · exact (h hlatest).elim
  · exact (h hlatest).elim

/-- A repeated value counts down while the counter does not reach 0 (R161). -/
theorem exec_fLed_of_counting (h : s.led.latest = some f) (hcnt : s.led.cnt ≠ 1#8) :
    exec (.fLed f) s = .next { s with led.cnt := s.led.cnt - 1#8 } := by
  rcases execFLed_cases f s with ⟨hlatest, _⟩ | ⟨_, _, e⟩ | ⟨_, hone, _⟩
  · exact (hlatest h).elim
  · exact e
  · exact (hcnt hone).elim

/-- A repeated value that brings the counter to 0 is published (R161). -/
theorem exec_fLed_of_confirming (h : s.led.latest = some f) (hcnt : s.led.cnt = 1#8) :
    exec (.fLed f) s = .next (publishLed f s) := by
  rcases execFLed_cases f s with ⟨hlatest, _⟩ | ⟨_, hne, _⟩ | ⟨_, _, e⟩
  · exact (hlatest h).elim
  · exact (hne hcnt).elim
  · exact e

end

end Sys2Proof.Machine

namespace Sys2Proof.Claims

open Sys2Proof Sys2Proof.Machine

/-! ## A run of the reference value (R152, R162) -/

section
variable {f : Frame} {s : State}

/-- Fewer repeats than the counter shows change the counter alone. -/
theorem repeatExec_fLed_of_lt {n : Nat} (h : s.led.latest = some f) (hn : n < s.led.cnt.toNat) :
    repeatExec (.fLed f) n s = .next { s with led.cnt := s.led.cnt - BitVec.ofNat 8 n } := by
  induction n generalizing s with
  | zero => rw [repeatExec, BitVec.sub_zero]
  | succ n ih =>
    have hcnt : s.led.cnt ≠ 1#8 := by bv_omega
    have hleft : n < (s.led.cnt - 1#8).toNat := by bv_omega
    have hsum : s.led.cnt - 1#8 - BitVec.ofNat 8 n = s.led.cnt - BitVec.ofNat 8 (n + 1) := by bv_omega
    rw [repeatExec, exec_fLed_of_counting h hcnt, andThen_next, ← hsum]
    exact ih (s := { s with led.cnt := s.led.cnt - 1#8 }) h hleft

/-- As many repeats as the counter shows publish the value, with no trace of the countdown. -/
theorem repeatExec_fLed_of_eq {n : Nat} (h : s.led.latest = some f) (hn : s.led.cnt.toNat = n + 1) :
    repeatExec (.fLed f) (n + 1) s = .next (publishLed f s) := by
  induction n generalizing s with
  | zero => rw [repeatExec, exec_fLed_of_confirming h (BitVec.eq_of_toNat_eq hn), andThen_next, repeatExec]
  | succ n ih =>
    have hcnt : s.led.cnt ≠ 1#8 := by bv_omega
    have hleft : (s.led.cnt - 1#8).toNat = n + 1 := by bv_omega
    rw [repeatExec, exec_fLed_of_counting h hcnt, andThen_next]
    exact ih (s := { s with led.cnt := s.led.cnt - 1#8 }) h hleft

end

/-! ## The claims -/

/-- Settles O30: the first frame sets the reference and the counter, the others are a run of the reference value. -/
theorem ledDebounceLaw : Obligations.LedDebounceLaw := by
  intro f s hconfirm hlatest
  have hchange := exec_fLed_of_changed hlatest
  refine ⟨fun n hn => ?_, ?_⟩
  · cases n with
    | zero => exact ⟨s, rfl, rfl, rfl, rfl⟩
    | succ n =>
      rw [repeatExec, hchange, andThen_next, repeatExec_fLed_of_lt (s := ledChange f s) rfl hn]
      exact ⟨_, rfl, rfl, rfl, rfl⟩
  · obtain ⟨n, hn⟩ : ∃ n, s.cfg.confirmLed.toNat = n + 1 := Nat.exists_eq_succ_of_ne_zero (by bv_omega)
    rw [repeatExec, hchange, andThen_next, hn, repeatExec_fLed_of_eq (s := ledChange f s) rfl hn]
    exact ⟨_, rfl, rfl, rfl, rfl, rfl⟩

/-- Settles O29: the reference changes, the counter goes down, or the value is published with its buzzer off or on. -/
theorem ledFrameCountsAndPublishes : Obligations.LedFrameCountsAndPublishes := by
  refine fun f s => ⟨exec_fLed_of_changed, exec_fLed_of_counting, fun hlatest hcnt hsilent => ?_,
    fun hlatest hcnt hbuzzer => ?_⟩
  · rw [exec_fLed_of_confirming hlatest hcnt, publishLed_of_silent hsilent]
  · rw [exec_fLed_of_confirming hlatest hcnt, publishLed_of_buzzer hbuzzer]
    rfl

end Sys2Proof.Claims

/-! SUPPORT. The interrupt side of the Button Command State Machine and the reply pulse: the frames of a button and of
none, what an edge leaves of the reply side, the line under the own pulse; the statements about them settled. -/

namespace Sys2Proof

/-! ## BUTTON frames (R93, R120) -/

theorem hits_eq_true_iff {f m : Mask} : hits f m = true ↔ (f &&& m) ≠ 0#16 := by
  simp [hits]

section
variable {c : Cfg} {f : Frame}

/-- R93: no button of the variant has its bit in the frame. -/
theorem buttonOf_eq_none_iff_masks :
    buttonOf c f = none ↔ ∀ b ∈ c.buttons, ∀ m, c.btn b = some m → (f &&& m) = 0#16 := by
  simp only [buttonOf, List.find?_eq_none, Bool.not_eq_true, ← hits_eq_false_iff]
  refine forall₂_congr fun b _ => ?_
  cases c.btn b <;> simp

/-- A frame of a button: none of the classes before BUTTON, a BUTTON bit, and the first button with its bit. -/
theorem button_test_iff {b : Button} : (FrameOp.button b).Test c f ↔
    f ≠ c.cue ∧ (f &&& c.digitAny) = 0#16 ∧ (f &&& c.ledMark) = 0#16 ∧ (f &&& c.buttonAny) ≠ 0#16 ∧
      buttonOf c f = some b := by
  simp only [FrameOp.Test, position_eq_none_iff, hits_eq_false_iff, hits_eq_true_iff]

theorem buttonNone_test_iff : FrameOp.buttonNone.Test c f ↔
    f ≠ c.cue ∧ (f &&& c.digitAny) = 0#16 ∧ (f &&& c.ledMark) = 0#16 ∧ (f &&& c.buttonAny) ≠ 0#16 ∧
      ∀ b ∈ c.buttons, ∀ m, c.btn b = some m → (f &&& m) = 0#16 := by
  simp only [FrameOp.Test, position_eq_none_iff, hits_eq_false_iff, hits_eq_true_iff, buttonOf_eq_none_iff_masks]

end

end Sys2Proof

namespace Sys2Proof.Machine

/-! ## Echoes (R171, R172) -/

@[simp] theorem exec_fBtnNone (f : Frame) (s : State) : exec (.fBtnNone f) s = .next s := rfl

theorem buttonEcho_of_zero {b : Button} {s : State} (h : s.press.get b = 0#8) : buttonEcho b s = s := by
  rcases buttonEcho_cases b s with ⟨_, e⟩ | ⟨hne, _⟩
  · exact e
  · exact (hne h).elim

theorem buttonEcho_of_armed {b : Button} {s : State} (h : s.press.get b ≠ 0#8) :
    buttonEcho b s = startReply b (setPress b (s.press.get b - 1#8) s) := by
  rcases buttonEcho_cases b s with ⟨hzero, _⟩ | ⟨_, e⟩
  · exact (h hzero).elim
  · exact e

/-! ## The reply side at a clock edge (R175) -/

theorem dispatch_sampler {f : Frame} {s t : State} (h : dispatch f s = .next t) : t.sampler = s.sampler := by
  obtain ⟨_, _, _, _, _, _, e⟩ := dispatch_frame f s
  obtain rfl := next_inj (e.symm.trans h)
  rfl

/-- After an edge RPG is idle with nothing scheduled, or armed by the one reply that the completed frame has scheduled;
the data pin is as the forced release left it. -/
theorem clockEdge_reply {d l : Level} {s t : State} (h : clockEdge d l s = .next t) :
    t.reply.dataPin = (edgeStart l s).reply.dataPin ∧ t.reply.latchLevel = l ∧
      ((t.reply.rpg = .idle ∧ t.world.replies = s.world.replies) ∨
       (t.reply.rpg = .armed (decide (l = .high)) ∧
        ∃ b, t.world.replies = s.world.replies ++ [⟨b, t.sampler.frameTotal⟩])) := by
  have hlatch := edgeStart_latchLevel l s
  have hreplies := edgeStart_replies l s
  obtain ⟨r, _, rfl | ⟨f, hf⟩⟩ := clockEdge_next h
  · exact ⟨rfl, hlatch, .inl ⟨edgeStart_rpg l s, hreplies⟩⟩
  · have hsampler := dispatch_sampler hf
    rcases dispatch_reply hf with ⟨hr, hw⟩ | ⟨hr, b, hw⟩ <;> rw [hr, hw]
    · exact ⟨rfl, hlatch, .inl ⟨edgeStart_rpg l s, hreplies⟩⟩
    · refine ⟨rfl, hlatch, .inr ⟨?_, b, ?_⟩⟩
      · show Rpg.armed ((edgeStart l s).reply.latchLevel == .high) = _
        rw [hlatch]; rfl
      · rw [hsampler]; exact congrArg (· ++ _) hreplies

/-- Under the own pulse the sampled bit is a free value, whatever is on the line (U6). -/
theorem sampleBit_of_drivenLow {s : State} (h : s.reply.dataPin = .drivenLow) (d : Level) :
    sampleBit d s = Config.freeBit s.world.freeCount := by
  unfold sampleBit; rw [h]

theorem clockEdge_of_drivenLow {s : State} (h : s.reply.dataPin = .drivenLow) (d d' l : Level) :
    clockEdge d l s = clockEdge d' l s := by
  unfold clockEdge; rw [sampleBit_of_drivenLow h d, sampleBit_of_drivenLow h d']

end Sys2Proof.Machine

namespace Sys2Proof.Claims

open Sys2Proof Sys2Proof.Machine

/-- Settles O14: the tests of F.BTN.NONE, in terms of the masks. -/
theorem buttonlessFramesAreDiscarded : Obligations.ButtonlessFramesAreDiscarded :=
  ⟨fun _ _ => (decodeFrame_eq_instr_iff .buttonNone).trans buttonNone_test_iff, exec_fBtnNone⟩

/-- Settles O31: the tests of F.BTN.<b>, then the echo with a zero and with a non-zero counter. -/
theorem buttonEchoCountsDownAndReplies : Obligations.ButtonEchoCountsDownAndReplies := by
  refine ⟨fun _ b _ => (decodeFrame_eq_instr_iff (.button b)).trans button_test_iff,
    fun b f s => ⟨fun h => ?_, fun h => ?_⟩⟩
  · rw [exec_button, buttonEcho_of_zero h]
  · refine ⟨s.press.set b (s.press.get b - 1#8), ?_, ?_, fun _ => PressFile.get_set_other _ _⟩
    · rw [exec_button, buttonEcho_of_armed h]; rfl
    · rw [PressFile.get_set_same]; bv_omega

/-- Settles O32: the three inputs of RPG between edges. -/
theorem replyPulseSequence : Obligations.ReplyPulseSequence := by
  intro s
  refine ⟨fun seen l h => congrArg Host.Outcome.next ?_, fun l h => congrArg Host.Outcome.next ?_,
    fun h => congrArg Host.Outcome.next ?_, fun h => congrArg Host.Outcome.next ?_,
    fun h => congrArg Host.Outcome.next ?_, fun h => congrArg Host.Outcome.next ?_⟩
  · rcases latchMoves_cases l s with ⟨seen', hs, e⟩ | ⟨hs, _⟩
    · obtain rfl := Rpg.armed.inj (hs.symm.trans h)
      exact e
    · exact (hs seen h).elim
  · exact (latchMoves_cases l s).elim (fun ⟨seen, hs, _⟩ => (h seen hs).elim) fun ⟨_, e⟩ => e
  · exact (replyStart_cases s).elim (fun ⟨_, e⟩ => e) fun ⟨hs, _⟩ => (hs h).elim
  · exact (replyStart_cases s).elim (fun ⟨hs, _⟩ => (h hs).elim) fun ⟨_, e⟩ => e
  · exact (replyEnd_cases s).elim (fun ⟨_, e⟩ => e) fun ⟨hs, _⟩ => (hs h).elim
  · exact (replyEnd_cases s).elim (fun ⟨hs, _⟩ => (h hs).elim) fun ⟨_, e⟩ => e

/-- Settles O33: the forced release, and at most one reply scheduled after it. -/
theorem edgeForcesRelease : Obligations.EdgeForcesRelease := by
  intro s t d l hlegal h
  obtain ⟨hpin, hrest⟩ := clockEdge_reply h
  exact ⟨hpin.trans (edgeStart_dataPin l hlegal), hrest⟩

/-- Settles O34. -/
theorem ownPulseHidesTheLine : Obligations.OwnPulseHidesTheLine := fun _ l h => clockEdge_of_drivenLow h .low .high l

end Sys2Proof.Claims

/-! SUPPORT. The foreground of the Button Command State Machine as a whole: which operations start a command, which
inputs move a running one, and the work that each action and tick takes from it; the statements about them settled. -/

namespace Sys2Proof.Machine

/-! ## Inputs to the foreground (R17, R43) -/

section
variable {s : State} {op : HostOp} {p : Point}

theorem runEvent_fg_ready (h : s.fg.cmd = .busy op (.ready p)) : runEvent .fg s = .next (act op p s) := by
  show Host.Outcome.next (fgAction s) = _
  unfold fgAction; rw [h]

theorem runEvent_fg_idle (h : s.fg.cmd = .idle) : runEvent .fg s = .next s := by
  show Host.Outcome.next (fgAction s) = _
  unfold fgAction; rw [h]

theorem runEvent_fg_waiting {n : Nat} (h : s.fg.cmd = .busy op (.waiting n p)) : runEvent .fg s = .next s := by
  show Host.Outcome.next (fgAction s) = _
  unfold fgAction; rw [h]

theorem runEvent_tick_ready (h : s.fg.cmd = .busy op (.ready p)) : runEvent .tick s = .next s := by
  show Host.Outcome.next (tick s) = _
  unfold tick; rw [h]

theorem runEvent_tick_idle (h : s.fg.cmd = .idle) : runEvent .tick s = .next s := by
  show Host.Outcome.next (tick s) = _
  unfold tick; rw [h]

theorem runEvent_tick_waiting {n : Nat} (h : s.fg.cmd = .busy op (.waiting n p)) :
    runEvent .tick s = .next (waitThen op (n - 1) p s) := by
  show Host.Outcome.next (tick s) = _
  unfold tick; rw [h]

end

/-! ## What starts a command (R186, R210) -/

/-- A command or H.LIVENESS is started as R186 says, when H.PRESS has operands that R177 and R45 allow. -/
theorem exec_starts {i : Instr} {s : State} (hi : Claims.IsCommand i ∨ i = .hLiveness)
    (hw : i.wellFormed s.cfg = true) : ∃ run, exec i s = startCommand s run := by
  rcases hi with hi | rfl
  · cases i with
    | hPress b n => exact ⟨_, execHPress_wellFormed hw⟩
    | hSetPower req | hSetFilter req | hSetBubble req => exact ⟨_, rfl⟩
    | hSetHeater req | hSetJet req | hSetTemp x | hSetDisinf x =>
      dsimp only [exec, execHSetHeater, execHSetJet, execHSetTemp, execHSetDisinf]
      exact ⟨_, rfl⟩
    | _ => exact hi.elim
  · dsimp only [exec, execHLiveness]
    exact ⟨_, rfl⟩

/-- A command that answers was well-formed: H.PRESS with other operands is refused. -/
theorem wellFormed_of_exec_next {i : Instr} {s t : State} (hi : Claims.IsCommand i) (h : exec i s = .next t) :
    i.wellFormed s.cfg = true := by
  cases i with
  | hPress b n =>
    replace h : execHPress b n s = .next t := h
    rcases execHPress_cases b n s with ⟨_, e⟩ | ⟨_, e⟩ | ⟨hw, _⟩
    · rw [e] at h; cases h
    · rw [e] at h; cases h
    · exact hw
  | hSetPower req | hSetFilter req | hSetBubble req | hSetHeater req | hSetJet req | hSetTemp x | hSetDisinf x => rfl
  | _ => exact hi.elim

/-- While a command runs only an accessor answers, and it hands out a value (R186, R200). -/
theorem exec_host_busy {i : Instr} {s t : State} (hi : IsHost i) (hbusy : s.fg.cmd ≠ .idle) (h : exec i s = .next t) :
    ∃ v, t = answer v s := by
  have accessor : ∀ v, (Host.Outcome.next (answer v s) : Result) = .next t → ∃ v, t = answer v s :=
    fun v e => ⟨v, (next_inj e).symm⟩
  have started : Claims.IsCommand i ∨ i = .hLiveness → i.wellFormed s.cfg = true → ∃ v, t = answer v s := by
    intro hi hw
    obtain ⟨run, e⟩ := exec_starts hi hw
    obtain ⟨hidle, _⟩ := startCommand_next (e.symm.trans h)
    exact (hbusy hidle).elim
  cases i with
  | hLiveness => exact started (.inr rfl) rfl
  | hPress b n => exact started (.inl trivial) (wellFormed_of_exec_next trivial h)
  | hSetPower req | hSetFilter req | hSetBubble req | hSetHeater req | hSetJet req | hSetTemp x | hSetDisinf x =>
    exact started (.inl trivial) rfl
  | hGetOnline | hGetFramesTotal | hGetFramesDropped | hGetPower | hGetFilter | hGetBubble | hGetHeaterOn
  | hGetHeaterStandby | hGetBuzzer | hGetJet | hGetDisinf | hGetLedRaw | hGetActualC | hGetDesiredC | hGetDurationH
  | hGetError => exact accessor _ h
  | _ => exact hi.elim

/-! ## The work of a command (R186) -/

/-- What `Wait(d)` adds to the work of the point after it; no wait, nothing. -/
theorem waitThen_work (op : HostOp) (d : Nat) (p : Point) (s : State) :
    (waitThen op d p s).fg.cmd.work s.cfg = p.work s.cfg + if d = 0 then 0 else d + 1 := by
  rw [waitThen_fg]
  by_cases h : d = 0
  · simp [h, Cmd.work]
  · simp only [h, if_false, Cmd.work]; omega

theorem waitThen_work_le (op : HostOp) (d : Nat) (p : Point) (s : State) :
    (waitThen op d p s).fg.cmd.work s.cfg ≤ p.work s.cfg + d + 1 := by
  rw [waitThen_work]; split <;> omega

theorem waitReadback_work_le (op : HostOp) (p : Nat → Point) (tries : Nat) (s : State) :
    (waitReadback op p tries s).fg.cmd.work s.cfg ≤ (s.cfg.readbackPoll + 1) + (p (tries - 1)).work s.cfg := by
  rw [waitReadback, waitThen_work]; split <;> omega

theorem pressReturn_work_le (op : HostOp) (ok : Bool) (k : Caller) (s : State) :
    (pressReturn op ok k s).fg.cmd.work s.cfg ≤ k.work s.cfg := by
  cases k with
  | direct => cases ok <;> exact Nat.le_refl 0
  | _ => exact Nat.le_trans (waitReadback_work_le op _ _ s) (Nat.le_of_eq (Nat.add_assoc _ _ _).symm)

theorem toggle_work_le (op : HostOp) (req : Bool) (cur : Option Bool) (b : Button) (s : State) :
    (toggle op req cur b s).fg.cmd.work s.cfg ≤ pressWork s.cfg s.cfg.buzzerWaitTries := by
  rcases toggle_cases op req cur b s with ⟨_, e⟩ | ⟨_, e⟩ <;> rw [e]
  · exact Nat.zero_le _
  · exact Nat.le_refl _

theorem mul_eq_pred_mul_add {n : Nat} (h : n ≠ 0) (d : Nat) : n * d = (n - 1) * d + d := by
  rw [← Nat.succ_mul, Nat.succ_eq_add_one, Nat.sub_one_add_one h]

/-- A press out of a budget of `presses` and what is left of the budget: one cycle each. -/
theorem cycleWork_mul {c : Cfg} {presses : Nat} (h : presses ≠ 0) :
    pressWork c c.buzzerWaitTries + (Caller.tempStep 0 (presses - 1) 0).work c = presses * cycleWork c := by
  rw [mul_eq_pred_mul_add h]
  simp only [Caller.work, cycleWork]
  omega

theorem tempLoop_work_le (target cur : Int) (presses : Nat) (s : State) :
    (tempLoop target cur presses s).fg.cmd.work s.cfg ≤ presses * cycleWork s.cfg := by
  rcases tempLoop_cases target cur presses s with ⟨_, e⟩ | ⟨_, _, e⟩ | ⟨_, h, e⟩ <;> rw [e]
  · exact Nat.zero_le _
  · exact Nat.zero_le _
  · exact Nat.le_of_eq (cycleWork_mul h)

theorem disinfLoop_work_le (target : Int) (cur : Option Int) (presses : Nat) (s : State) :
    (disinfLoop target cur presses s).fg.cmd.work s.cfg ≤ presses * cycleWork s.cfg := by
  rcases disinfLoop_cases target cur presses s with ⟨_, e⟩ | ⟨_, _, e⟩ | ⟨_, h, e⟩ <;> rw [e]
  · exact Nat.zero_le _
  · exact Nat.zero_le _
  · exact Nat.le_of_eq (cycleWork_mul h)

theorem readbackWork_pos (c : Cfg) (tries : Nat) : 0 < readbackWork c tries := by
  simp only [readbackWork]; omega

/-- A read-back that waits for the next one: `p tries` is the point of the read-back, `rest` the work after the loop. -/
theorem waitReadback_work_lt {op : HostOp} {p : Nat → Point} {tries rest : Nat} {s : State}
    (hp : ∀ n, (p n).work s.cfg = readbackWork s.cfg n + rest) (h : tries ≠ 0) :
    (waitReadback op p tries s).fg.cmd.work s.cfg < readbackWork s.cfg tries + rest := by
  have hwait := waitReadback_work_le op p tries s
  have htries := mul_eq_pred_mul_add h (s.cfg.readbackPoll + 2)
  simp only [hp, readbackWork] at hwait ⊢
  omega

/-- Every action lowers the work: it returns, or goes on at a point with less work after a wait that the work covers. -/
theorem act_work_lt (op : HostOp) (p : Point) (s : State) : (act op p s).fg.cmd.work s.cfg < p.work s.cfg := by
  cases p with
  | pollQuiet b n tries k =>
    dsimp only [act]; split
    next h =>
      simp only [Bool.and_eq_true, bne_iff_ne] at h
      obtain ⟨_, hleft⟩ := h
      have hpoll := waitThen_work_le op s.cfg.ackPoll (.pollQuiet b n (tries - 1) k) s
      have htries := mul_eq_pred_mul_add hleft (s.cfg.ackPoll + 2)
      simp only [Point.work, pressWork] at hpoll ⊢
      omega
    next => simp only [goOn_fg, Cmd.work, Point.work, pressWork]; omega
  | checkQuiet b n k =>
    dsimp only [act]; split
    next =>
      have hreturn := pressReturn_work_le op false k s
      simp only [Point.work]
      omega
    next =>
      have hsettle := waitThen_work_le op s.cfg.settle (.arm b n k) s
      simp only [Point.work] at hsettle ⊢
      omega
  | arm b n k => simp only [act, goOn_fg, Cmd.work, Point.work]; omega
  | pollAck b tries k =>
    dsimp only [act]; split
    next h =>
      simp only [Bool.and_eq_true, bne_iff_ne] at h
      obtain ⟨_, hleft⟩ := h
      have hpoll := waitThen_work_le op s.cfg.ackPoll (.pollAck b (tries - 1) k) s
      have htries := mul_eq_pred_mul_add hleft (s.cfg.ackPoll + 2)
      simp only [Point.work] at hpoll ⊢
      omega
    next => simp only [goOn_fg, Cmd.work, Point.work]; omega
  | readBuzzer b k => simp only [act, goOn_fg, Cmd.work, Point.work]; omega
  | disarm b ok k =>
    have hreturn := pressReturn_work_le op ok k (setPress b 0#8 s)
    simp only [act, Point.work, setPress_cfg] at hreturn ⊢
    omega
  | readStandby req =>
    have htoggle := toggle_work_le op req (readLamp .heaterStandby s) .heater s
    simp only [act, Point.work]
    omega
  | readProbe target tries =>
    have hpos := readbackWork_pos s.cfg tries
    dsimp only [act, Point.work]; split
    next cur _ =>
      exact Nat.lt_of_le_of_lt (tempLoop_work_le target cur s.cfg.maxPresses s) (Nat.lt_add_of_pos_left hpos)
    next =>
      split
      next => exact Nat.add_pos_left hpos _
      next h => exact waitReadback_work_lt (fun _ => rfl) h
  | readStep target presses expect tries =>
    have hpos := readbackWork_pos s.cfg tries
    dsimp only [act, Point.work]; split
    next =>
      split
      next cur _ => exact Nat.lt_of_le_of_lt (tempLoop_work_le target cur presses s) (Nat.lt_add_of_pos_left hpos)
      next => exact Nat.add_pos_left hpos _
    next h => exact waitReadback_work_lt (fun _ => rfl) fun h0 => h (.inr h0)
  | readDisinf target presses cur tries =>
    have hpos := readbackWork_pos s.cfg tries
    dsimp only [act, Point.work]; split
    next => exact Nat.lt_of_le_of_lt (disinfLoop_work_le target _ presses s) (Nat.lt_add_of_pos_left hpos)
    next h => exact waitReadback_work_lt (fun _ => rfl) fun h0 => h (.inr h0)

/-- A tick lowers the work of a command in a Wait. -/
theorem waitThen_pred_work_lt (op : HostOp) (n : Nat) (p : Point) (s : State) :
    (waitThen op (n - 1) p s).fg.cmd.work s.cfg < n + 1 + p.work s.cfg := by
  rw [waitThen_work]; split <;> omega

/-- Only an action, a tick and a start of FG move the command register. -/
theorem runEvent_keeps_cmd {s t : State} {e : Event} (hbusy : s.fg.cmd ≠ .idle) (hfg : e ≠ .fg)
    (htick : e ≠ .tick) (h : runEvent e s = .next t) : t.fg.cmd = s.fg.cmd := by
  cases e with
  | clk d l =>
    obtain ⟨_, hfg⟩ := clockEdge_frame h
    rw [hfg]
  | fg => exact (hfg rfl).elim
  | tick => exact (htick rfl).elim
  | now x => rw [← next_inj h]
  | host c =>
    obtain ⟨i, hi, he⟩ := hostCall_next h
    obtain ⟨v, rfl⟩ := exec_host_busy (decodeCall_isHost hi) hbusy he
    rfl
  | latch l => rw [← next_inj h, latchMoves_eq]
  | replyStart => rw [← next_inj h]; rcases replyStart_cases s with ⟨_, e⟩ | ⟨_, e⟩ <;> rw [e]
  | replyEnd => rw [← next_inj h]; rcases replyEnd_cases s with ⟨_, e⟩ | ⟨_, e⟩ <;> rw [e]

end Sys2Proof.Machine

namespace Sys2Proof.Claims

open Sys2Proof Sys2Proof.Machine

/-- Settles O45. -/
theorem secondCommandIsRefused : Obligations.SecondCommandIsRefused := by
  intro i s op pl hbusy hi hw
  obtain ⟨run, e⟩ := exec_starts hi hw
  exact e.trans (startCommand_busy hbusy run)

/-- Settles O46: `act_work_lt` for the actions, `waitThen_pred_work_lt` for the ticks. -/
theorem commandsAreBounded : Obligations.CommandsAreBounded := by
  refine ⟨fun s op p h => ⟨⟨_, runEvent_fg_ready h, ?_⟩, runEvent_tick_ready h⟩,
    fun s op n p h => ⟨⟨_, runEvent_tick_waiting h, rfl, ?_⟩, runEvent_fg_waiting h⟩,
    fun s h => ⟨runEvent_fg_idle h, runEvent_tick_idle h⟩,
    fun s t e hbusy hfg htick h => ⟨runEvent_cfg h, runEvent_keeps_cmd hbusy hfg htick h⟩⟩
  · have hcfg : (act op p s).cfg = s.cfg := runEvent_cfg (runEvent_fg_ready h)
    rw [hcfg, h]
    exact ⟨rfl, act_work_lt op p s⟩
  · rw [h]
    exact waitThen_pred_work_lt op n p s

end Sys2Proof.Claims

/-! SUPPORT. The commands of the foreground, action by action: the press primitive, the toggles, the setpoint commands
and the target of H.SET_DISINF; the statements about them settled. -/

namespace Sys2Proof.Machine

/-! ## The nearest duration (R185) -/

/-- `x` is no farther from `h` than `m`, and not above it when both are equally near. -/
def NoFarther (h x m : Int) : Prop :=
  stepDistance h x ≤ stepDistance h m ∧ (stepDistance h m = stepDistance h x → x ≤ m)

theorem NoFarther.refl (h x : Int) : NoFarther h x x := ⟨Nat.le_refl _, fun _ => Int.le_refl _⟩

theorem NoFarther.trans {h x y z : Int} (hxy : NoFarther h x y) (hyz : NoFarther h y z) : NoFarther h x z := by
  obtain ⟨hxy, hxy'⟩ := hxy
  obtain ⟨hyz, hyz'⟩ := hyz
  refine ⟨Nat.le_trans hxy hyz, fun e => Int.le_trans (hxy' ?_) (hyz' ?_)⟩ <;> omega

/-- The better of two members is one of them, and neither is better. -/
theorem nearer_spec (h a b : Int) :
    (nearer h a b = a ∨ nearer h a b = b) ∧ NoFarther h (nearer h a b) a ∧ NoFarther h (nearer h a b) b := by
  unfold nearer NoFarther
  split
  next => omega
  next =>
    split
    next => omega
    next =>
      rcases Int.le_total a b with hab | hab
      · rw [Int.min_eq_left hab]; omega
      · rw [Int.min_eq_right hab]; omega

theorem foldl_nearer_spec (h a : Int) (l : List Int) :
    l.foldl (nearer h) a ∈ a :: l ∧ ∀ m ∈ a :: l, NoFarther h (l.foldl (nearer h) a) m := by
  induction l generalizing a with
  | nil => simp [NoFarther.refl]
  | cons b l ih =>
    obtain ⟨hone, ha, hb⟩ := nearer_spec h a b
    obtain ⟨hmem, hbest⟩ := ih (nearer h a b)
    have hnearer := hbest _ List.mem_cons_self
    rw [List.foldl_cons]
    refine ⟨?_, fun m hm => ?_⟩
    · rcases List.mem_cons.mp hmem with e | hl
      · rw [e]; rcases hone with e | e <;> simp [e]
      · simp [hl]
    · rcases List.mem_cons.mp hm with rfl | hm
      · exact hnearer.trans ha
      · rcases List.mem_cons.mp hm with rfl | hm
        · exact hnearer.trans hb
        · exact hbest m (List.mem_cons_of_mem _ hm)

/-- The clamp of H.SET_TEMP (R184, D32): below the range its bottom, above it its top, inside it the request. -/
theorem clampTarget_eq {c : Cfg} {t target : Int} (hc : c.tempSetMin ≤ c.tempSetMax)
    (h : (t < c.tempSetMin ∧ target = c.tempSetMin) ∨ (t > c.tempSetMax ∧ target = c.tempSetMax) ∨
      (c.tempSetMin ≤ t ∧ t ≤ c.tempSetMax ∧ target = t)) : clampTarget c t = target := by
  unfold clampTarget; omega

/-! ## The press primitive, action by action (R177) -/

section
variable {s : State} {op : HostOp} {b : Button} {n : Count} {tries : Nat} {k : Caller}

theorem act_pollQuiet_waits (h : Claims.BuzzerOn s ∧ tries ≠ 0) :
    act op (.pollQuiet b n tries k) s = waitThen op s.cfg.ackPoll (.pollQuiet b n (tries - 1) k) s := by
  obtain ⟨hbuzzer, htries⟩ := h
  simp [act, (buzzerActive_iff s).mpr hbuzzer, htries]

theorem act_pollQuiet_ends (h : ¬ (Claims.BuzzerOn s ∧ tries ≠ 0)) :
    act op (.pollQuiet b n tries k) s = goOn op (.checkQuiet b n k) s := by
  refine if_neg ?_
  rwa [Bool.and_eq_true, bne_iff_ne, buzzerActive_iff]

theorem act_checkQuiet_of_active (h : Claims.BuzzerOn s) : act op (.checkQuiet b n k) s = pressReturn op false k s :=
  if_pos ((buzzerActive_iff s).mpr h)

theorem act_checkQuiet_of_quiet (h : ¬ Claims.BuzzerOn s) :
    act op (.checkQuiet b n k) s = waitThen op s.cfg.settle (.arm b n k) s :=
  if_neg (mt (buzzerActive_iff s).mp h)

theorem act_pollAck_waits (h : s.press.get b ≠ 0#8 ∧ tries ≠ 0) :
    act op (.pollAck b tries k) s = waitThen op s.cfg.ackPoll (.pollAck b (tries - 1) k) s := by
  refine if_pos ?_
  rwa [Bool.and_eq_true, bne_iff_ne, bne_iff_ne]

theorem act_pollAck_ends (h : ¬ (s.press.get b ≠ 0#8 ∧ tries ≠ 0)) :
    act op (.pollAck b tries k) s = goOn op (.readBuzzer b k) s := by
  refine if_neg ?_
  rwa [Bool.and_eq_true, bne_iff_ne, bne_iff_ne]

theorem act_readBuzzer_of_iff {ok : Bool} (h : ok = true ↔ Claims.BuzzerOn s) :
    act op (.readBuzzer b k) s = goOn op (.disarm b ok k) s := by
  have hok : buzzerActive s = ok := Bool.eq_iff_iff.mpr ((buzzerActive_iff s).trans h.symm)
  rw [act, hok]

/-- H.PRESS for HOST or a toggle hands its result on; a failure records no more than that (R178, R223). -/
theorem pressReturn_direct (ok : Bool) : pressReturn op ok .direct s = finish ok s := by
  cases ok <;> rfl

/-! ## The toggles (R178) -/

/-- A lamp of the variant counts as on exactly when its bit is published (D22). -/
theorem readLamp_eq_true_iff {x : Lamp} {m : Mask} (h : s.cfg.lamp x = some m) :
    readLamp x s = some true ↔ Claims.LampOn s m := by
  rw [readLamp_of_lamp h, Option.map_eq_some_iff]
  simp only [lampOf, hits_eq_true_iff]
  rfl

variable {req : Bool} {x : Lamp} {m : Mask}

theorem toggle_of_match (hx : s.cfg.lamp x = some m) (h : req = true ↔ Claims.LampOn s m) :
    toggle op req (readLamp x s) b s = finish true s := by
  rw [← readLamp_eq_true_iff hx] at h
  rcases toggle_cases op req (readLamp x s) b s with ⟨_, e⟩ | ⟨hne, _⟩
  · exact e
  · exact (hne h).elim

theorem toggle_of_mismatch (hx : s.cfg.lamp x = some m) (h : ¬ (req = true ↔ Claims.LampOn s m)) :
    toggle op req (readLamp x s) b s = callPress op b s.cfg.pressCount .direct s := by
  rw [← readLamp_eq_true_iff hx] at h
  rcases toggle_cases op req (readLamp x s) b s with ⟨heq, _⟩ | ⟨_, e⟩
  · exact (h heq).elim
  · exact e

end

/-! ## The read-backs (R184, R185) -/

section
variable {s : State} {op : HostOp} {target expect now : Int} {presses tries : Nat} {cur : Option Int}

theorem act_readProbe_of_some (h : readDesired s = some now) :
    act op (.readProbe target tries) s = tempLoop target now s.cfg.maxPresses s := by
  simp only [act, h]

theorem act_readProbe_of_none (h : readDesired s = none) : act op (.readProbe target tries) s =
    if tries = 0 then failTimeout s else waitReadback op (.readProbe target) tries s := by
  simp only [act, h]

theorem act_readStep_of_some (h : readDesired s = some now) (hend : now = expect ∨ tries = 0) :
    act op (.readStep target presses expect tries) s = tempLoop target now presses s := by
  simp only [act, h, Option.some_inj, hend, if_true]

theorem act_readStep_of_none (h : readDesired s = none) (hend : tries = 0) :
    act op (.readStep target presses expect tries) s = failTimeout s := by
  simp only [act, h, hend, or_true, if_true]

theorem act_readStep_waits (h : readDesired s ≠ some expect) (htries : tries ≠ 0) :
    act op (.readStep target presses expect tries) s = waitReadback op (.readStep target presses expect) tries s :=
  if_neg (not_or.mpr ⟨h, htries⟩)

theorem act_readDisinf_ends (h : (readDuration s ≠ none ∧ readDuration s ≠ cur) ∨ tries = 0) :
    act op (.readDisinf target presses cur tries) s = disinfLoop target (readDuration s) presses s := if_pos h

theorem act_readDisinf_waits (h : readDuration s = none ∨ readDuration s = cur) (htries : tries ≠ 0) :
    act op (.readDisinf target presses cur tries) s = waitReadback op (.readDisinf target presses cur) tries s :=
  if_neg fun hend => hend.elim (fun ⟨hsome, hnew⟩ => h.elim hsome hnew) htries

end

/-! ## The start of the commands (R177 to R185) -/

section
variable {s : State}

theorem exec_hPress_idle {b : Button} {n : Count} (h : s.fg.cmd = .idle)
    (hw : (Instr.hPress b n).wellFormed s.cfg = true) :
    exec (.hPress b n) s = .next (act .press (.pollQuiet b n s.cfg.buzzerWaitTries .direct) s) :=
  (execHPress_wellFormed hw).trans (startCommand_idle h _)

theorem exec_hPress_absent {b : Button} {n : Count} (h : b ∉ s.cfg.buttons) :
    exec (.hPress b n) s = .refused (.buttonAbsent b) := by
  refine if_pos ?_
  simpa using h

theorem exec_hPress_notMade {b : Button} {n : Count} (hb : b ∈ s.cfg.buttons)
    (hw : (Instr.hPress b n).wellFormed s.cfg = false) : exec (.hPress b n) s = .refused (.pressNotMade b n) := by
  rcases execHPress_cases b n s with ⟨hb', _⟩ | ⟨_, e⟩ | ⟨hw', _⟩
  · rw [List.contains_iff_mem.mpr hb] at hb'; cases hb'
  · exact e
  · rw [hw'] at hw; cases hw

end

theorem hPress_wellFormed_iff {c : Cfg} {b : Button} {n : Count} : (Instr.hPress b n).wellFormed c = true ↔
    b ∈ c.buttons ∧ b ≠ .tempUnit ∧ (n = c.pressCount ∨ n = c.pressShortCount) := by
  simp [Instr.wellFormed, and_assoc]

section
variable {s : State} (h : s.fg.cmd = .idle)
include h

theorem exec_hSetHeater_of_on (req : Bool) (hon : readLamp .heaterOn s = some true) :
    exec (.hSetHeater req) s = .next (toggle .setHeater req (some true) .heater s) := by
  simp [exec, execHSetHeater, startCommand_idle h, hon]

theorem exec_hSetHeater_of_not_on (req : Bool) (hoff : readLamp .heaterOn s ≠ some true) :
    exec (.hSetHeater req) s = .next (goOn .setHeater (.readStandby req) s) := by
  simp [exec, execHSetHeater, startCommand_idle h, hoff]

theorem exec_hSetJet_base7 (req : Bool) (hv : s.cfg.variant = .base7) :
    exec (.hSetJet req) s = .next (finish false s) := by
  simp only [exec, execHSetJet, startCommand_idle h, hv]

theorem exec_hSetJet_ext9 (req : Bool) (hv : s.cfg.variant = .ext9) :
    exec (.hSetJet req) s = .next (toggle .setJet req (readLamp .jet s) .jet s) := by
  simp only [exec, execHSetJet, startCommand_idle h, hv]

theorem exec_hSetTemp_unreadable (t : Int) (hr : readDesired s = none) : exec (.hSetTemp t) s =
    .next (callPress .setTemp .tempDown s.cfg.pressShortCount (.probe (clampTarget s.cfg t)) s) := by
  simp only [exec, execHSetTemp, startCommand_idle h, hr]

theorem exec_hSetTemp_readable {cur : Int} (t : Int) (hr : readDesired s = some cur) :
    exec (.hSetTemp t) s = .next (tempLoop (clampTarget s.cfg t) cur s.cfg.maxPresses s) := by
  simp only [exec, execHSetTemp, startCommand_idle h, hr]

theorem exec_hSetDisinf_base7 (x : Int) (hv : s.cfg.variant = .base7) :
    exec (.hSetDisinf x) s = .next (finish false s) := by
  simp only [exec, execHSetDisinf, startCommand_idle h, hv]

theorem exec_hSetDisinf_ext9 (x : Int) (hv : s.cfg.variant = .ext9) : exec (.hSetDisinf x) s =
    .next (disinfLoop (snap s.cfg x) (readDuration s) s.cfg.disinfMaxPresses s) := by
  simp only [exec, execHSetDisinf, startCommand_idle h, hv]

end

end Sys2Proof.Machine

namespace Sys2Proof.Claims

open Sys2Proof Sys2Proof.Machine

/-- Settles O43. -/
theorem snapIsNearestSmallerFirst : Obligations.SnapIsNearestSmallerFirst := by
  intro c h hne
  unfold snap
  cases hsteps : c.disinfSteps with
  | nil => exact (hne hsteps).elim
  | cons m rest => exact foldl_nearer_spec h m rest

/-! ## The press primitive -/

/-- Settles O35: the first poll of the buzzer, then the two refusals. -/
theorem pressStartsWithQuietWait : Obligations.PressStartsWithQuietWait := by
  refine fun b n s => ⟨fun hidle hb hunit hn => ?_, exec_hPress_absent, fun hb hbad => ?_⟩
  · rw [exec_hPress_idle hidle (hPress_wellFormed_iff.mpr ⟨hb, hunit, hn⟩)]
    exact ⟨fun h => congrArg _ (act_pollQuiet_ends h), fun h => congrArg _ (act_pollQuiet_waits h)⟩
  · refine exec_hPress_notMade hb (Bool.eq_false_iff.mpr fun hw => ?_)
    obtain ⟨_, hunit, hn⟩ := hPress_wellFormed_iff.mp hw
    rcases hbad with hb | ⟨hlong, hshort⟩
    · exact hunit hb
    · exact hn.elim hlong hshort

/-- Settles O36: one action after the other. -/
theorem pressActions : Obligations.PressActions := by
  refine fun op b n tries ok k s => ⟨fun h hwait => ?_, fun h hdone => ?_, fun h hk hbuzzer => ?_, fun h hquiet => ?_,
    fun h => ⟨s.press.set b n, ?_, PressFile.get_set_same _ _ _, fun _ => PressFile.get_set_other _ _⟩,
    fun h hwait => ?_, fun h hdone => ?_, fun h hok => ?_,
    fun h hk => ⟨s.press.set b 0#8, ?_, PressFile.get_set_same _ _ _, fun _ => PressFile.get_set_other _ _⟩⟩
  all_goals rw [runEvent_fg_ready h]
  · rw [act_pollQuiet_waits hwait]; rfl
  · rw [act_pollQuiet_ends hdone]; rfl
  · rw [act_checkQuiet_of_active hbuzzer, hk]; rfl
  · rw [act_checkQuiet_of_quiet hquiet]; rfl
  · rfl
  · rw [act_pollAck_waits hwait]; rfl
  · rw [act_pollAck_ends hdone]; rfl
  · rw [act_readBuzzer_of_iff hok]; rfl
  · rw [act, hk, pressReturn_direct]; rfl

/-! ## The toggles -/

/-- A command that is one toggle of the lamp `x`, with the bit `m` in every configuration. -/
theorem toggles_of_lamp {i : Bool → Instr} {op : HostOp} {b : Button} {m : Cfg → Mask} (x : Lamp)
    (hx : ∀ c : Cfg, c.lamp x = some (m c))
    (hexec : ∀ req s, exec (i req) s = startCommand s fun s => toggle op req (readLamp x s) b s) :
    Toggles i op b m := by
  intro req s hidle
  rw [hexec, startCommand_idle hidle]
  exact ⟨fun h => congrArg _ (toggle_of_match (hx s.cfg) h), fun h => congrArg _ (toggle_of_mismatch (hx s.cfg) h)⟩

/-- Settles O37. -/
theorem togglesCompareWithTheLamp : Obligations.TogglesCompareWithTheLamp :=
  ⟨toggles_of_lamp .power (fun _ => rfl) fun _ _ => rfl, toggles_of_lamp .filter (fun _ => rfl) fun _ _ => rfl,
    toggles_of_lamp .bubble (fun _ => rfl) fun _ _ => rfl⟩

/-- Settles O38: heater-on at the start, heater-standby as the second action. -/
theorem heaterToggleReadsBothLamps : Obligations.HeaterToggleReadsBothLamps := by
  intro req s
  have hon : readLamp .heaterOn s = some true ↔ LampOn s s.cfg.lampHeaterOn := readLamp_eq_true_iff rfl
  refine ⟨fun hidle h hreq => ?_, fun hidle h hreq => ?_, fun hidle h => ?_, fun hcmd h => ?_, fun hcmd h => ?_⟩
  · rw [exec_hSetHeater_of_on hidle req (hon.mpr h), hreq]; rfl
  · rw [exec_hSetHeater_of_on hidle req (hon.mpr h), hreq]; rfl
  · rw [exec_hSetHeater_of_not_on hidle req (mt hon.mp h)]; rfl
  · rw [runEvent_fg_ready hcmd]; exact congrArg _ (toggle_of_match rfl h)
  · rw [runEvent_fg_ready hcmd]; exact congrArg _ (toggle_of_mismatch rfl h)

/-- Settles O39. -/
theorem jetToggleByVariant : Obligations.JetToggleByVariant := by
  refine fun req s hidle => ⟨exec_hSetJet_base7 hidle req, fun m hv hm => ?_⟩
  have hjet : s.cfg.lamp .jet = some m := by simp only [Cfg.lamp, hv, hm]
  rw [exec_hSetJet_ext9 hidle req hv]
  exact ⟨fun h => congrArg _ (toggle_of_match hjet h), fun h => congrArg _ (toggle_of_mismatch hjet h)⟩

/-! ## The setpoint commands -/

theorem tempGoesOn_tempLoop (s : State) (target cur : Int) (presses : Nat) :
    TempGoesOn s target cur presses (.next (tempLoop target cur presses s)) := by
  rcases tempLoop_cases target cur presses s with ⟨heq, e⟩ | ⟨hne, hzero, e⟩ | ⟨hne, hpos, e⟩ <;> rw [e]
  · exact ⟨fun _ => rfl, fun h => (h heq).elim, fun h => by omega, fun h => by omega⟩
  · exact ⟨fun h => (hne h).elim, fun _ _ => rfl, fun _ h => (h hzero).elim, fun _ h => (h hzero).elim⟩
  · refine ⟨fun h => (hne h).elim, fun _ h => (hpos h).elim, fun h _ => ?_, fun h _ => ?_⟩
    · rw [stepButton, stepExpect, if_pos h, if_pos h]; rfl
    · rw [stepButton, stepExpect, if_neg (by omega), if_neg (by omega)]; rfl

theorem disinfGoesOn_disinfLoop (s : State) (target : Int) (cur : Option Int) (presses : Nat) :
    DisinfGoesOn s target cur presses (.next (disinfLoop target cur presses s)) := by
  rcases disinfLoop_cases target cur presses s with ⟨heq, e⟩ | ⟨hne, hzero, e⟩ | ⟨hne, hpos, e⟩ <;> rw [e]
  · exact ⟨fun _ => rfl, fun h => (h heq).elim, fun h => (h heq).elim⟩
  · exact ⟨fun h => (hne h).elim, fun _ _ => rfl, fun _ h => (h hzero).elim⟩
  · exact ⟨fun h => (hne h).elim, fun _ h => (hpos h).elim, fun _ _ => rfl⟩

/-- Settles O40. -/
theorem setTempStarts : Obligations.SetTempStarts := by
  intro t target s hidle hrange htarget
  obtain rfl := clampTarget_eq hrange htarget
  refine ⟨exec_hSetTemp_unreadable hidle t, fun cur hcur => ?_⟩
  rw [exec_hSetTemp_readable hidle t hcur]
  exact tempGoesOn_tempLoop _ _ _ _

/-- Settles O41. -/
theorem setDisinfStarts : Obligations.SetDisinfStarts := by
  refine fun h s hidle => ⟨exec_hSetDisinf_base7 hidle h, fun hv => ?_⟩
  rw [exec_hSetDisinf_ext9 hidle h hv]
  exact disinfGoesOn_disinfLoop _ _ _ _

/-- A setpoint command suspends before its first read-back, whatever the press has returned. -/
theorem pressReturn_setpoint {k : Caller} {p : Point} {s : State} {target : Int} {presses : Nat} {expect : Int}
    {cur : Option Int} (op : HostOp) (ok : Bool)
    (h : (k = .probe target ∧ p = .readProbe target (s.cfg.readbackTries - 1)) ∨
      (k = .tempStep target presses expect ∧ p = .readStep target presses expect (s.cfg.readbackTries - 1)) ∨
      (k = .disinfStep target presses cur ∧ p = .readDisinf target presses cur (s.cfg.readbackTries - 1))) :
    pressReturn op ok k s = { s with fg.cmd := suspended op s.cfg.readbackPoll p } := by
  rcases h with ⟨rfl, rfl⟩ | ⟨rfl, rfl⟩ | ⟨rfl, rfl⟩ <;> rfl

/-- Settles O42: the way into the loops, then the three read-backs. -/
theorem setpointReadbacks : Obligations.SetpointReadbacks := by
  refine fun op b n ok k p s target presses tries expect cur => ⟨fun hk => ⟨fun h => ?_, fun h hbuzzer => ?_⟩,
    fun h => ⟨fun now hnow => ?_, fun hnone hzero => ?_, fun hnone hpos => ?_⟩,
    fun h => ⟨fun now hnow hend => ?_, fun hnone hzero => ?_, fun hne hpos => ?_⟩,
    fun h => ⟨fun now hnow hend => ?_, fun now hnow hsame hpos => ?_⟩⟩
  · refine ⟨s.press.set b 0#8, ?_, PressFile.get_set_same _ _ _, fun _ => PressFile.get_set_other _ _⟩
    rw [runEvent_fg_ready h]
    exact congrArg _ (pressReturn_setpoint (s := setPress b 0#8 s) op ok hk)
  · rw [runEvent_fg_ready h, act_checkQuiet_of_active hbuzzer, pressReturn_setpoint op false hk]
  · rw [runEvent_fg_ready h, act_readProbe_of_some hnow]
    exact tempGoesOn_tempLoop _ _ _ _
  · rw [runEvent_fg_ready h, act_readProbe_of_none hnone, if_pos hzero]; rfl
  · rw [runEvent_fg_ready h, act_readProbe_of_none hnone, if_neg hpos]; rfl
  · rw [runEvent_fg_ready h, act_readStep_of_some hnow hend]
    exact tempGoesOn_tempLoop _ _ _ _
  · rw [runEvent_fg_ready h, act_readStep_of_none hnone hzero]; rfl
  · rw [runEvent_fg_ready h, act_readStep_waits hne hpos]; rfl
  · subst hnow
    rw [runEvent_fg_ready h, act_readDisinf_ends hend]
    exact disinfGoesOn_disinfLoop _ _ _ _
  · subst hnow
    rw [runEvent_fg_ready h, act_readDisinf_waits hsame hpos]; rfl

end Sys2Proof.Claims

/-! SUPPORT. What a command writes and what it reads (R187): it writes press counters, its place and its result, and the
registers that it cannot see have no part in it; the statement about both settled. -/

namespace Sys2Proof.Machine

/-! ## What a command writes -/

theorem exec_command_setsCommand {i : Instr} {s t : State} (hi : Claims.IsCommand i) (h : exec i s = .next t) :
    SetsCommand False s t := by
  cases i with
  | hPress b n => exact execHPress_setsCommand h
  | hSetPower req | hSetFilter req | hSetBubble req =>
    exact startCommand_setsCommand h (toggle_setsCommand req _ nofun)
  | hSetHeater req => exact execHSetHeater_setsCommand h
  | hSetJet req => exact execHSetJet_setsCommand h
  | hSetTemp x => exact execHSetTemp_setsCommand h
  | hSetDisinf x => exact execHSetDisinf_setsCommand h
  | _ => exact hi.elim

/-! ## What a command reads -/

/-- `hidden` with everything that a command may read or write as in `s` (R187): the published registers, the press
counters, the foreground and the result. -/
def overlay (hidden s : State) : State :=
  { hidden with
    cfg := s.cfg
    sampler.frameTotal := s.sampler.frameTotal
    sampler.frameDropped := s.sampler.frameDropped
    display.pubActual := s.display.pubActual
    display.pubDesired := s.display.pubDesired
    display.pubDuration := s.display.pubDuration
    display.errCode := s.display.errCode
    led.pubLed := s.led.pubLed
    press := s.press
    fg := s.fg
    world.result := s.world.result }

theorem sameForCommands_overlay (hidden s : State) : Claims.SameForCommands s (overlay hidden s) :=
  ⟨⟨rfl, rfl, rfl, rfl, rfl, rfl, rfl, rfl, rfl⟩, rfl, rfl, rfl⟩

theorem eq_overlay {s s' : State} (h : Claims.SameForCommands s s') : s' = overlay s' s := by
  obtain ⟨⟨hcfg, hled, hactual, hdesired, hduration, herr, htotal, hdropped, _⟩, hpress, hfg, hresult⟩ := h
  simp only [overlay, hcfg, hled, hactual, hdesired, hduration, herr, htotal, hdropped, hpress, hfg, hresult]

section
variable (hidden s : State)

theorem toggle_overlay (op : HostOp) (req : Bool) (cur : Option Bool) (b : Button) :
    toggle op req cur b (overlay hidden s) = overlay hidden (toggle op req cur b s) := by
  unfold toggle
  rw [apply_ite (overlay hidden)]
  rfl

theorem pressReturn_overlay (op : HostOp) (ok : Bool) (k : Caller) :
    pressReturn op ok k (overlay hidden s) = overlay hidden (pressReturn op ok k s) := by
  cases k with
  | direct => cases ok <;> rfl
  | _ => rfl

theorem tempLoop_overlay (target cur : Int) (presses : Nat) :
    tempLoop target cur presses (overlay hidden s) = overlay hidden (tempLoop target cur presses s) := by
  unfold tempLoop
  rw [apply_ite (overlay hidden), apply_ite (overlay hidden)]
  rfl

theorem disinfLoop_overlay (target : Int) (cur : Option Int) (presses : Nat) :
    disinfLoop target cur presses (overlay hidden s) = overlay hidden (disinfLoop target cur presses s) := by
  unfold disinfLoop
  rw [apply_ite (overlay hidden), apply_ite (overlay hidden)]
  rfl

/-- No action reads or writes a register that commands cannot see. -/
theorem act_overlay (op : HostOp) (p : Point) : act op p (overlay hidden s) = overlay hidden (act op p s) := by
  have hdesired : readDesired (overlay hidden s) = readDesired s := rfl
  cases p with
  | arm b n k | readBuzzer b k => rfl
  | disarm b ok k => exact pressReturn_overlay hidden (setPress b 0#8 s) op ok k
  | readStandby req => exact toggle_overlay hidden s op req _ _
  | pollQuiet b n tries k | pollAck b tries k =>
    dsimp only [act]
    rw [apply_ite (overlay hidden)]
    rfl
  | checkQuiet b n k =>
    dsimp only [act]
    rw [apply_ite (overlay hidden), ← pressReturn_overlay]
    rfl
  | readProbe target tries =>
    dsimp only [act]
    rw [hdesired]
    cases readDesired s with
    | none => dsimp only; rw [apply_ite (overlay hidden)]; rfl
    | some cur => exact tempLoop_overlay hidden s target cur _
  | readStep target presses expect tries =>
    dsimp only [act]
    rw [hdesired, apply_ite (overlay hidden)]
    cases readDesired s with
    | none => rfl
    | some cur => dsimp only; rw [← tempLoop_overlay]; rfl
  | readDisinf target presses cur tries =>
    dsimp only [act]
    rw [apply_ite (overlay hidden), ← disinfLoop_overlay]
    rfl

theorem fgAction_overlay : fgAction (overlay hidden s) = overlay hidden (fgAction s) := by
  have hcmd : (overlay hidden s).fg.cmd = s.fg.cmd := rfl
  unfold fgAction
  rw [hcmd]
  split
  · exact act_overlay hidden s _ _
  · rfl
  · rfl

variable {hidden s} {t : State}

/-- A command whose first action sees no hidden register starts alike over any of them. -/
theorem startCommand_overlay {run : State → State} (hrun : run (overlay hidden s) = overlay hidden (run s))
    (h : startCommand s run = .next t) : startCommand (overlay hidden s) run = .next (overlay hidden t) := by
  obtain ⟨hidle, rfl⟩ := startCommand_next h
  rw [startCommand_idle (s := overlay hidden s) hidle, hrun]

theorem exec_command_overlay {i : Instr} (hi : Claims.IsCommand i) (h : exec i s = .next t) :
    exec i (overlay hidden s) = .next (overlay hidden t) := by
  cases i with
  | hPress b n =>
    have hw := wellFormed_of_exec_next hi h
    replace h : execHPress b n s = .next t := h
    rw [execHPress_wellFormed hw] at h
    exact (execHPress_wellFormed (s := overlay hidden s) hw).trans (startCommand_overlay (act_overlay hidden s _ _) h)
  | hSetPower req | hSetFilter req | hSetBubble req => exact startCommand_overlay (toggle_overlay hidden s _ _ _ _) h
  | hSetHeater req =>
    dsimp only [exec, execHSetHeater] at h ⊢
    refine startCommand_overlay ?_ h
    rw [apply_ite (overlay hidden), ← toggle_overlay]
    rfl
  | hSetJet req =>
    dsimp only [exec, execHSetJet] at h ⊢
    refine startCommand_overlay ?_ h
    have hv : (overlay hidden s).cfg.variant = s.cfg.variant := rfl
    rw [hv]
    cases s.cfg.variant with
    | base7 => rfl
    | ext9 => exact toggle_overlay hidden s _ _ _ _
  | hSetTemp x =>
    dsimp only [exec, execHSetTemp] at h ⊢
    refine startCommand_overlay ?_ h
    have hdesired : readDesired (overlay hidden s) = readDesired s := rfl
    rw [hdesired]
    cases readDesired s with
    | none => rfl
    | some cur => exact tempLoop_overlay hidden s _ cur _
  | hSetDisinf x =>
    dsimp only [exec, execHSetDisinf] at h ⊢
    refine startCommand_overlay ?_ h
    have hv : (overlay hidden s).cfg.variant = s.cfg.variant := rfl
    rw [hv]
    cases s.cfg.variant with
    | base7 => rfl
    | ext9 => exact disinfLoop_overlay hidden s _ _ _
  | _ => exact hi.elim

end

end Sys2Proof.Machine

namespace Sys2Proof.Claims

open Sys2Proof Sys2Proof.Machine

/-- Settles O44: the frame of a start and of an action, then both over other hidden registers. -/
theorem commandsTouchOnlyPressCountersAndLocals : Obligations.CommandsTouchOnlyPressCountersAndLocals := by
  refine ⟨fun i s t hi h => ?_, fun s t h => ?_, fun i s s' t hi hsame h => ?_, fun s s' t hsame h => ?_⟩
  · obtain ⟨_, _, rfl, _⟩ := exec_command_setsCommand hi h
    rfl
  · obtain ⟨_, _, _, _, e, _⟩ := fgAction_setsCommand s
    obtain rfl := (next_inj h).symm.trans e
    rfl
  · rw [eq_overlay hsame]
    exact ⟨_, exec_command_overlay hi h, sameForCommands_overlay _ _⟩
  · rw [eq_overlay hsame, ← next_inj h]
    exact ⟨_, congrArg Host.Outcome.next (fgAction_overlay _ _), sameForCommands_overlay _ _⟩

end Sys2Proof.Claims

/-! SUPPORT. What HOST sees of the block: the accessors as functions of the published registers, the range of the frame
counters, the error latch through every operation of the Display Decoder, and the liveness check; the statements about
the readings settled from them. -/

namespace Sys2Proof.Machine

/-! ## The published registers (R200, R208) -/

/-- `hidden` with everything that an accessor may show as in `s`. -/
def withPublished (hidden s : State) : State :=
  { hidden with
    cfg := s.cfg
    sampler.frameTotal := s.sampler.frameTotal
    sampler.frameDropped := s.sampler.frameDropped
    display.pubActual := s.display.pubActual
    display.pubDesired := s.display.pubDesired
    display.pubDuration := s.display.pubDuration
    display.errCode := s.display.errCode
    led.pubLed := s.led.pubLed
    fg.online := s.fg.online }

theorem eq_withPublished {s t : State} (h : Claims.SamePublished s t) : t = withPublished t s := by
  obtain ⟨hcfg, hled, hactual, hdesired, hduration, herr, htotal, hdropped, honline⟩ := h
  simp only [withPublished, hcfg, hled, hactual, hdesired, hduration, herr, htotal, hdropped, honline]

/-- An accessor answers, and over other hidden registers it hands out the same value. -/
theorem exec_accessor_withPublished {i : Instr} (hi : Claims.IsAccessor i) (hidden s : State) :
    ∃ r, exec i s = .next (answer r s) ∧
      exec i (withPublished hidden s) = .next (answer r (withPublished hidden s)) := by
  cases i with
  | hGetOnline | hGetFramesTotal | hGetFramesDropped | hGetPower | hGetFilter | hGetBubble | hGetHeaterOn
  | hGetHeaterStandby | hGetBuzzer | hGetJet | hGetDisinf | hGetLedRaw | hGetActualC | hGetDesiredC | hGetDurationH
  | hGetError => exact ⟨_, rfl, rfl⟩
  | _ => exact hi.elim

/-! ## Lamps (R92, R203) -/

theorem lampOf_eq_decide (l m : Mask) : lampOf l m = decide ((l &&& m) ≠ 0#16) := by
  rw [Bool.eq_iff_iff, decide_eq_true_iff]
  exact bne_iff_ne

theorem buzzerOf_eq_decide (c : Cfg) (l : Frame) : buzzerOf c l = decide ((l &&& c.lampNoBeep) = 0#16) := by
  rw [Bool.eq_iff_iff, decide_eq_true_iff]
  exact buzzerOf_iff c l

theorem readLamp_eq_map {x : Lamp} {s : State} {m : Mask} (h : s.cfg.lamp x = some m) :
    readLamp x s = s.led.pubLed.map fun l => decide ((l &&& m) ≠ 0#16) := by
  simp only [readLamp_of_lamp h, lampOf_eq_decide]

theorem readBuzzer_eq_map (s : State) :
    readBuzzer s = s.led.pubLed.map fun l => decide ((l &&& s.cfg.lampNoBeep) = 0#16) := by
  unfold readBuzzer
  exact congrArg s.led.pubLed.map (funext (buzzerOf_eq_decide s.cfg))

/-- The extended lamps of `EXT9` have the bits that the configuration gives them. -/
theorem lamp_ext9 {c : Cfg} (hv : c.variant = .ext9) : c.lamp .jet = c.lampJet ∧ c.lamp .disinf = c.lampDisinf := by
  simp only [Cfg.lamp, hv, and_self]

/-- `BASE7` has no extended lamp (decision D22). -/
theorem lamp_base7 {c : Cfg} (hv : c.variant = .base7) : c.lamp .jet = none ∧ c.lamp .disinf = none := by
  simp only [Cfg.lamp, hv, and_self]

/-! ## The frame counters (R42, R112, R113) -/

/-- The counter after the top value is 0. -/
theorem wrapFc_succ_top {c : Cfg} {n : Nat} (h : n = 2 ^ c.wFc - 1) : wrapFc c (n + 1) = 0 := by
  rw [h, Nat.sub_add_cancel Nat.one_le_two_pow]
  exact Nat.mod_self _

section
variable {s t : State}

theorem clockEdge_sampler_legal {d l : Level} (hs : s.sampler.Legal s.cfg) (h : clockEdge d l s = .next t) :
    t.sampler.Legal t.cfg := by
  obtain ⟨hcfg, _⟩ := clockEdge_frame h
  rw [hcfg]
  obtain ⟨r, hr, rfl | ⟨f, hf⟩⟩ := clockEdge_next h
  · exact hr hs
  · rw [dispatch_sampler hf]; exact hr hs

/-- Every input keeps the ranges of the sampler's registers, whatever the rest of the state holds. -/
theorem runEvent_sampler_legal {e : Event} (hs : s.sampler.Legal s.cfg) (h : runEvent e s = .next t) :
    t.sampler.Legal t.cfg := by
  rcases e.clk_or_not with ⟨d, l, rfl⟩ | hclk
  · exact clockEdge_sampler_legal hs h
  · obtain ⟨_, _, _, _, _, rfl, _⟩ := runEvent_frame hclk h
    exact hs

theorem step_sampler_legal (hs : s.sampler.Legal s.cfg) (h : step s = .next t) : t.sampler.Legal t.cfg := by
  rcases step_cases s with ⟨_, e⟩ | ⟨ev, rest, _, e⟩ <;> rw [e] at h
  · exact next_inj h ▸ hs
  · exact runEvent_sampler_legal (s := { s with world.inputs := rest }) hs h

theorem exec_sComplete_frameTotal (h : exec .sComplete s = .next t) :
    t.sampler.frameTotal = wrapFc s.cfg (s.sampler.frameTotal + 1) := by
  obtain ⟨u, _, hrun, hu, _⟩ := exec_sComplete_next s
  obtain rfl := next_inj (hrun.symm.trans h)
  rw [frameBoundary_sampler, hu, countTotal_sampler]

theorem exec_sDrop_counters (h : exec .sDrop s = .next t) :
    t.sampler.frameTotal = wrapFc s.cfg (s.sampler.frameTotal + 1) ∧
      t.sampler.frameDropped = wrapFc s.cfg (s.sampler.frameDropped + 1) := by
  obtain rfl := next_inj h
  exact ⟨rfl, rfl⟩

end

/-! ## The error latch (R143, R207)

Only an error composite writes `errCode`, and it writes a code. -/

section
variable (c : Cfg) (fc : Nat) (v : Composite) (d : Display)

theorem blankAccepted_errCode : (blankAccepted c d).errCode = d.errCode := by
  rcases blankAccepted_cases c d with ⟨_, e⟩ | ⟨_, _, e⟩ | ⟨_, _, e⟩ <;> rw [e]

theorem confirmedBlank_errCode : (confirmedBlank c fc d).errCode = d.errCode := by
  rcases confirmedBlank_cases c fc d with ⟨_, e⟩ | ⟨_, _, e⟩ | ⟨_, e⟩ <;> rw [e]
  exact blankAccepted_errCode c _

theorem tempBlinking_errCode (age : Nat) : (tempBlinking c v age d).errCode = d.errCode := by
  rcases tempBlinking_cases c v age d with ⟨_, e⟩ | ⟨_, _, e⟩ | ⟨_, _, e⟩ <;> rw [e]

theorem tempSteady_errCode : (tempSteady c v d).errCode = d.errCode := by
  rcases tempSteady_cases c v d with ⟨_, _, e⟩ | ⟨_, _, e⟩ | ⟨_, e⟩ <;> rw [e]

variable {d}

theorem handleValue_keeps_error (age : Nat) (h : d.errCode ≠ none) : (handleValue c v age d).errCode ≠ none := by
  rcases handleValue_cases c v age d with ⟨_, e⟩ | ⟨_, _, e⟩ | ⟨_, _, e⟩ | ⟨_, _, _, e⟩ | ⟨_, _, _, e⟩ <;> rw [e]
  · nofun
  · rwa [tempBlinking_errCode]
  · rwa [tempSteady_errCode]
  · exact h
  · exact h

theorem confirmed_keeps_error (h : d.errCode ≠ none) : (confirmed c fc v d).errCode ≠ none := by
  unfold confirmed confirmedValue
  split
  · rwa [confirmedBlank_errCode]
  · apply handleValue_keeps_error
    split <;> exact h

theorem processComposite_keeps_error (h : d.errCode ≠ none) : (processComposite c fc v d).errCode ≠ none := by
  rcases processComposite_cases c fc v d with ⟨_, e⟩ | ⟨_, _, e⟩ | ⟨_, _, e⟩ <;> rw [e]
  · exact h
  · exact h
  · exact confirmed_keeps_error c fc v h

theorem digitFrame_keeps_error (k : Pos) (f : Frame) (h : d.errCode ≠ none) :
    (digitFrame c fc k f d).errCode ≠ none := by
  rcases digitFrame_cases c fc k f d with ⟨_, e⟩ | ⟨_, _, _, _, e⟩ | ⟨_, _, _, _, e⟩ <;> rw [e]
  · exact h
  · exact h
  · exact processComposite_keeps_error c fc _ h

end

/-- A step that touches the display registers is a DIGIT frame, and no DIGIT frame clears the latch. -/
theorem step_keeps_error {s t : State} (h : step s = .next t) (hs : s.display.errCode ≠ none) :
    t.display.errCode ≠ none := by
  rcases step_display h with e | ⟨f, k, _, e⟩ <;> rw [e]
  · exact hs
  · exact digitFrame_keeps_error s.cfg _ k f hs

/-! ## Hours (R150) -/

section
variable {c : Cfg} {v : Composite}

theorem hours_of_marker (h : c.durationMarker = some v.c4) : hours c (some v) = parse3 v :=
  if_pos (beq_iff_eq.mpr h)

theorem hours_of_other_marker (h : c.durationMarker ≠ some v.c4) : hours c (some v) = none :=
  if_neg (mt beq_iff_eq.mp h)

theorem hours_of_no_marker (h : c.durationMarker = none) (v : Option Composite) : hours c v = none := by
  cases v with
  | none => rfl
  | some v => exact hours_of_other_marker (by rw [h]; nofun)

end

/-! ## Liveness (R210) -/

section
variable {s : State}

theorem liveness_of_updated (h : s.stateUpdated = true) :
    liveness s = { s with stateUpdated := false, fg.lastUpdateMs := s.world.nowMs, fg.online := true } := if_pos h

theorem liveness_of_timeout (h : s.stateUpdated = false)
    (hlate : onlineTimeout s.cfg < (s.world.nowMs - s.fg.lastUpdateMs).toNat) :
    liveness s = { s with fg.online := false } := by
  rw [liveness, if_neg (by rw [h]; decide), if_pos hlate]
  rfl

theorem liveness_of_waiting (h : s.stateUpdated = false)
    (hearly : ¬ onlineTimeout s.cfg < (s.world.nowMs - s.fg.lastUpdateMs).toNat) : liveness s = s := by
  rw [liveness, if_neg (by rw [h]; decide), if_neg hearly]

theorem exec_hLiveness_idle (h : s.fg.cmd = .idle) : exec .hLiveness s = .next (answer .unit (liveness s)) :=
  startCommand_idle h fun s => answer .unit (liveness s)

end

end Sys2Proof.Machine

namespace Sys2Proof.Claims

open Sys2Proof Sys2Proof.Machine

/-- Settles O48: the accessors and construction by definition, the range as part of `Sampler.Legal`, and the wraps from
what S.COMPLETE and S.DROP make of the counters. -/
theorem frameCounterAccessors : Obligations.FrameCounterAccessors := by
  refine ⟨fun _ => ⟨rfl, rfl⟩, fun _ _ => ⟨rfl, rfl⟩, fun s t hs h => ?_, fun s t htop => ⟨fun h => ?_, fun h => ?_⟩,
    fun s t htop h => ?_⟩
  · obtain ⟨_, hcounters⟩ := step_sampler_legal hs h
    exact hcounters
  · rw [exec_sComplete_frameTotal h, wrapFc_succ_top htop]
  · obtain ⟨htotal, _⟩ := exec_sDrop_counters h
    rw [htotal, wrapFc_succ_top htop]
  · obtain ⟨_, hdropped⟩ := exec_sDrop_counters h
    rw [hdropped, wrapFc_succ_top htop]

/-- Settles O57. -/
theorem errorLatchIsNeverCleared : Obligations.ErrorLatchIsNeverCleared :=
  ⟨fun _ => rfl, fun _ _ => rfl, fun _ _ => step_keeps_error⟩

/-! ## Lamps -/

/-- An accessor of the lamp `x`, with the bit `m` in every configuration. -/
theorem readsLamp_of_lamp {i : Instr} {m : Cfg → Mask} (x : Lamp) (hx : ∀ c : Cfg, c.lamp x = some (m c))
    (hexec : ∀ s, exec i s = .next (answer (.tri (readLamp x s)) s)) : ReadsLamp i m := by
  intro s
  rw [hexec, readLamp_eq_map (hx s.cfg)]
  rfl

/-- Settles O47: the five lamps of both variants, the buzzer, the raw mask, and the extended lamps by variant. -/
theorem lampAccessors : Obligations.LampAccessors := by
  have hjet (s : State) : exec .hGetJet s = .next (answer (.tri (readLamp .jet s)) s) := rfl
  have hdisinf (s : State) : exec .hGetDisinf s = .next (answer (.tri (readLamp .disinf s)) s) := rfl
  refine ⟨readsLamp_of_lamp .power (fun _ => rfl) fun _ => rfl, readsLamp_of_lamp .filter (fun _ => rfl) fun _ => rfl,
    readsLamp_of_lamp .bubble (fun _ => rfl) fun _ => rfl, readsLamp_of_lamp .heaterOn (fun _ => rfl) fun _ => rfl,
    readsLamp_of_lamp .heaterStandby (fun _ => rfl) fun _ => rfl, fun s => ?_, fun _ => rfl, fun s hv => ?_,
    fun s j m hv hj hm => ?_⟩
  · rw [← readBuzzer_eq_map]; rfl
  · obtain ⟨hnoJet, hnoDisinf⟩ := lamp_base7 hv
    rw [hjet, hdisinf, readLamp_absent hnoJet, readLamp_absent hnoDisinf]
    exact ⟨rfl, rfl⟩
  · obtain ⟨hbitJet, hbitDisinf⟩ := lamp_ext9 hv
    rw [hjet, hdisinf, readLamp_eq_map (hbitJet.trans hj), readLamp_eq_map (hbitDisinf.trans hm)]
    exact ⟨rfl, rfl⟩

/-! ## Temperatures and hours -/

/-- A temperature that an accessor shows is in the closed range (R149). -/
theorem range_of_celsius {c : Cfg} {v : Option Composite} {t : Int} (h : celsius c v = some t) :
    c.tempMin ≤ t ∧ t ≤ c.tempMax := by
  cases v with
  | none => cases h
  | some v =>
    by_cases hn : ∃ n, ShowsNumber v n
    · obtain ⟨n, hn⟩ := hn
      rw [celsius_of_number c hn, Option.bind_eq_some_iff] at h
      obtain ⟨u, _, hu⟩ := h
      obtain ⟨hin, hout⟩ := inRange_cases c u
      by_cases hr : c.tempMin ≤ u ∧ u ≤ c.tempMax
      · obtain rfl : u = t := Option.some.inj ((hin hr).symm.trans hu)
        exact hr
      · rw [hout hr] at hu; cases hu
    · rw [celsius_of_no_number c (not_exists.mp hn)] at h; cases h

/-- Settles O49. -/
theorem readingAccessors : Obligations.ReadingAccessors := by
  refine fun s => ⟨rfl, rfl, rfl, rfl, rfl, fun h => by rw [h]; rfl, fun h => hours_of_no_marker h _,
    fun v h hmarker => ?_, fun v h hmarker => ⟨fun n hn => ?_, fun hnone => ?_⟩, fun t h => ?_⟩
  · rw [h]; exact hours_of_other_marker hmarker
  · rw [h, hours_of_marker hmarker]; exact parse3_eq_some_iff.mpr hn
  · rw [h, hours_of_marker hmarker]
    exact Option.eq_none_iff_forall_ne_some.mpr fun n hn => hnone n (parse3_eq_some_iff.mp hn)
  · rcases h with h | h <;> exact range_of_celsius h

/-- Settles O51. -/
theorem accessorsSeeOnlyPublishedState : Obligations.AccessorsSeeOnlyPublishedState := by
  intro i s t hi hsame
  rw [eq_withPublished hsame]
  exact exec_accessor_withPublished hi t s

/-- Settles O52: the three cases of the liveness check on an idle foreground. -/
theorem livenessCheck : Obligations.LivenessCheck := by
  refine ⟨fun _ _ => rfl, fun s hidle => ?_⟩
  rw [exec_hLiveness_idle hidle]
  refine ⟨fun h => ?_, fun h hlate => ?_, fun h hearly => ?_⟩
  · rw [liveness_of_updated h]; rfl
  · rw [liveness_of_timeout h hlate]; rfl
  · rw [liveness_of_waiting h hearly]; rfl

end Sys2Proof.Claims

/-! SUPPORT. What always answers: the sampler and frame operations, a clock edge, an accessor, and the start of a command
on an idle foreground; the statement that only host calls are refused settled from them. -/

namespace Sys2Proof.Machine

/-- The host operations are the commands, the liveness check and the accessors (R62, R186, R200). -/
theorem isHost_cases {i : Instr} (hi : IsHost i) :
    (Claims.IsCommand i ∨ i = .hLiveness) ∨ Claims.IsAccessor i := by
  cases i with
  | hPress b n => exact .inl (.inl trivial)
  | hSetPower req | hSetFilter req | hSetBubble req | hSetHeater req | hSetJet req | hSetTemp x | hSetDisinf x =>
    exact .inl (.inl trivial)
  | hLiveness => exact .inl (.inr rfl)
  | hGetOnline | hGetFramesTotal | hGetFramesDropped | hGetPower | hGetFilter | hGetBubble | hGetHeaterOn
  | hGetHeaterStandby | hGetBuzzer | hGetJet | hGetDisinf | hGetLedRaw | hGetActualC | hGetDesiredC | hGetDurationH
  | hGetError => exact .inr trivial
  | _ => exact hi.elim

section
variable {s : State} {i : Instr}

theorem andThen_completes {o : Result} {k : State → Result} (ho : Completes o) (hk : ∀ t, Completes (k t)) :
    Completes (andThen o k) := by
  obtain ⟨t, rfl⟩ := ho
  exact hk t

/-- Every operation of the interrupt side answers: the five frame tests have no refusing branch (R94, R226), and
S.COMPLETE runs one such frame operation. -/
theorem exec_completes_of_not_host (hi : ¬ IsHost i) : Completes (exec i s) := by
  cases i with
  | sComplete =>
    obtain ⟨_, _, hrun, _⟩ := exec_sComplete_next s
    exact ⟨_, hrun⟩
  | sShift _ | sDrop | sIdle => exact ⟨_, rfl⟩
  | fCue | fZero | fDigitP1 _ | fDigitP2 _ | fDigitP3 _ | fDigitP4 _ | fLed _ | fBtnPower _ | fBtnFilter _
  | fBtnHeater _ | fBtnBubble _ | fBtnTempUp _ | fBtnTempDown _ | fBtnTempUnit _ | fBtnJet _ | fBtnDisinf _
  | fBtnNone _ | fUnknown _ => exact ⟨_, rfl⟩
  | _ => exact (hi trivial).elim

theorem decodeEdge_not_host (en bit : Bool) (n : BitVec 5) : ¬ IsHost (decodeEdge en bit n) := by
  rcases decodeEdge_cases en bit n with ⟨e, _⟩ | e | e | e <;> rw [e] <;> exact id

/-- An edge answers for every value of `nbits`: its sampler operation does, and so does the completion after it. -/
theorem clockEdge_completes (d l : Level) (s : State) : Completes (clockEdge d l s) := by
  refine andThen_completes (exec_completes_of_not_host (decodeEdge_not_host _ _ _)) fun t => ?_
  split
  · exact exec_completes_of_not_host id
  · exact ⟨t, rfl⟩

theorem exec_accessor_completes (hi : Claims.IsAccessor i) : Completes (exec i s) := by
  obtain ⟨_, hrun, _⟩ := exec_accessor_withPublished hi s s
  exact ⟨_, hrun⟩

/-- A command or H.LIVENESS is refused only for its operands (R177) or for a running command (R186). -/
theorem exec_starting_completes (hi : Claims.IsCommand i ∨ i = .hLiveness) (hidle : s.fg.cmd = .idle)
    (hw : i.wellFormed s.cfg = true) : Completes (exec i s) := by
  obtain ⟨run, hstart⟩ := exec_starts hi hw
  exact ⟨run s, hstart.trans (startCommand_idle hidle run)⟩

theorem exec_completes_of_idle (hidle : s.fg.cmd = .idle) (hw : i.wellFormed s.cfg = true) :
    Completes (exec i s) := by
  by_cases hhost : IsHost i
  · rcases isHost_cases hhost with hstarts | haccessor
    · exact exec_starting_completes hstarts hidle hw
    · exact exec_accessor_completes haccessor
  · exact exec_completes_of_not_host hhost

theorem runEvent_completes {e : Event} (he : ∀ call, e ≠ .host call) : Completes (runEvent e s) := by
  cases e with
  | host call => exact (he call rfl).elim
  | clk d l => exact clockEdge_completes d l s
  | fg | tick | now _ | latch _ | replyStart | replyEnd => exact ⟨_, rfl⟩

end

end Sys2Proof.Machine

namespace Sys2Proof.Claims

open Sys2Proof Sys2Proof.Machine

/-- Settles O60: the inputs that are no host call, the operations on an idle foreground, and the accessors. -/
theorem onlyHostCallsAreRefused : Obligations.OnlyHostCallsAreRefused :=
  ⟨fun _ _ => runEvent_completes, fun _ _ => exec_completes_of_idle, fun _ _ => exec_accessor_completes⟩

end Sys2Proof.Claims
